-- ==== Sys2Proof/Word.lean ====
section
/-! DEFINITION. The plain types of the panel protocol block: bytes, levels, lines, buffers, pixel formats, host requests
and the two encodings of spec/opcode_table.json. Rules of spec/: 00_scope.md R8, 30_encoding.md R71, R73, R74, R77. -/

namespace Sys2Proof

/-- `u8` (R8). -/
abbrev Byte := BitVec 8

/-- `u16` (R8). -/
abbrev U16 := BitVec 16

/-- `u32` (R26: the width of `clockHz`). -/
abbrev U32 := BitVec 32

/-- A control line's identifier, a u8 (R26). -/
abbrev LineId := BitVec 8

/-- The transport's cause of a failure, "an opaque value passed through" (R72). The block never looks inside it
(log 12: a natural number stands for it). -/
abbrev Cause := Nat

/-- `BufRef` is either `null` (none) or a byte list with its length (R71). -/
abbrev BufRef := Option (List Byte)

/-- A line level: 0 or 1 (R28, R29). -/
inductive Level where
  | low
  | high
deriving DecidableEq, Repr, Inhabited

/-- `1 - l` for a level (R74). -/
def Level.other : Level → Level
  | .low => .high
  | .high => .low

/-- The two output lines an operation drives (R73: `L ∈ {DC, RST}`). -/
inductive Line where
  | dc
  | rst
deriving DecidableEq, Repr

/-- The two modes of a bus transaction (R101). -/
inductive Mode where
  | command
  | data
deriving DecidableEq, Repr

/-- The closed list of pixel formats of `pack` (R77). -/
inductive PixelFormat where
  | rgb565
  | l8
  | bgr888
  | bgra8888
deriving DecidableEq, Repr

/-- The source's RefreshWindow, with its swapped naming (R33): `columns` is a count of rows of pixels, `rows` is the
horizontal extent in bits. -/
structure RefreshWindow where
  xStart : Nat
  yStart : Nat
  columns : Nat
  rows : Nat
deriving DecidableEq, Repr

/-- One argument field of a host request, with its type (R71). -/
inductive Arg where
  | u1 (v : Bool)
  | u8 (v : BitVec 8)
  | u16 (v : BitVec 16)
  | u32 (v : BitVec 32)
  | buf (v : BufRef)
deriving DecidableEq, Repr

/-- A host request, the record `{op, args}` of R71. It is the only thing a host can issue: it has no form for a
command frame (R78, R81). -/
structure HostRequest where
  op : Byte
  args : List Arg
deriving DecidableEq, Repr

/-- How an instruction is encoded, one form for each of the table's two formats. `hostop`: the host's record of R71,
which has no bit layout, an input of the block. `cmdframe`: the opcode byte sent in command mode and the payload bytes
sent in data mode (R74), an output of the block. -/
inductive Encoding where
  | hostop (op : Byte) (args : List Arg)
  | cmdframe (opcode : Byte) (payload : List Byte)
deriving DecidableEq, Repr

end Sys2Proof
end

