-- ==== Sys2Proof/Config.lean ====
section
/-! DEFINITION. What the block's configuration fixes (00_scope.md R6) and the free values. `Params` is the record of
the model's parameters; it stands in State, so every statement holds for every configuration. The opaque constants
have no value a proof could see: the OPEN parameters of the reference configuration, the environment's draws
(40_bus_primitives.md R110), the agent that moves next (46_packer.md R230), and a byte read outside a waveform table. -/

namespace Sys2Proof

/-- The outcome of an `AcquireBus` or an `Xfer`, drawn from the environment (R73, R110). -/
inductive BusOutcome where
  | ok
  | fail (cause : Cause)
deriving DecidableEq, Repr, Inhabited

/-- The two agents of the block that can move while an operation is in flight (R313). -/
inductive Agent where
  | sequencer
  | packer
deriving DecidableEq, Repr, Inhabited

/-- The parameters of R6, in the order of its table. `validLines` lists the identifiers that meet `LINE_ID_VALID`. -/
structure Params where
  w : Nat
  h : Nat
  maxTxn : Nat
  defaultClockHz : Nat
  resetHoldMs : Nat
  busyPollMs : Nat
  validLines : List LineId
  dcCmdLevel : Level
  wfDefault : List Byte
  wfFast : List Byte
  pDrvOutTail : List Byte
  pBooster : List Byte
  pDataEntry : List Byte
  pBorder : List Byte
  pTempSensor : List Byte
  cleanStartCtrl : Byte
  pDeepSleep : List Byte
  fullCtrl : Byte
  partialCtrl : Byte
  defaultThreshold : Byte
  mirrorX : Bool
  rgb565ByteSwap : Bool
  lutMainOff : Nat
  lutMainLen : Nat
  lutGateOff : Nat
  lutSourceOff : Nat
  lutVcomOff : Nat
deriving DecidableEq, Repr

/-- `FRAME_BYTES = W*H/8` (R6, R31). -/
def Params.frameBytes (p : Params) : Nat := p.w * p.h / 8

/-! OPEN parameters (R6): no source fixes their values, so nothing in Lean can evaluate them (log 9). -/

/-- Byte `i` of `WF_DEFAULT`, OPEN (R6, D19). -/
opaque Config.wfDefaultByte : Nat → Byte

/-- Byte `i` of `WF_FAST`, OPEN (R6, D19). -/
opaque Config.wfFastByte : Nat → Byte

/-- `P_DRV_OUT_TAIL`, OPEN (R6, D14). -/
opaque Config.pDrvOutTail : List Byte

/-- `P_BOOSTER`, OPEN (R6, D14). -/
opaque Config.pBooster : List Byte

/-- `P_DATA_ENTRY`, OPEN (R6, D14). -/
opaque Config.pDataEntry : List Byte

/-- `P_BORDER`, OPEN (R6, D14). -/
opaque Config.pBorder : List Byte

/-- `P_TEMP_SENSOR`, OPEN (R6, D14). -/
opaque Config.pTempSensor : List Byte

/-- `CLEAN_START_CTRL`, OPEN (R6, D14). -/
opaque Config.cleanStartCtrl : Byte

/-- `P_DEEP_SLEEP`, OPEN (R6, D24). -/
opaque Config.pDeepSleep : List Byte

/-! Free values: the machine goes on, and the spec does not say which value results. -/

/-- The outcome of the `n`-th `AcquireBus` or `Xfer` for which the state supplies no draw (R110, log 4). -/
opaque Config.freeOutcome : Nat → BusOutcome

/-- The level of the `n`-th BUSY sample for which the state supplies no draw (R104, R110, log 4). -/
opaque Config.freeBusy : Nat → Level

/-- Which agent moves at the `n`-th choice for which the state supplies none (R230, R313, log 8). -/
opaque Config.freeTurn : Nat → Agent

/-- The byte at offset `i` of a waveform table that has no byte there (log 10). -/
opaque Config.freeRomByte : Nat → Byte

/-- The configuration at the reference values of R6; OPEN parameters are the opaque constants above (log 9). -/
def Params.reference : Params where
  w := 480
  h := 800
  maxTxn := 4096
  defaultClockHz := 10000000
  resetHoldMs := 10
  busyPollMs := 10
  validLines := (List.range 31).map (BitVec.ofNat 8)
  dcCmdLevel := .low
  wfDefault := (List.range 112).map Config.wfDefaultByte
  wfFast := (List.range 112).map Config.wfFastByte
  pDrvOutTail := Config.pDrvOutTail
  pBooster := Config.pBooster
  pDataEntry := Config.pDataEntry
  pBorder := Config.pBorder
  pTempSensor := Config.pTempSensor
  cleanStartCtrl := Config.cleanStartCtrl
  pDeepSleep := Config.pDeepSleep
  fullCtrl := 0xC7
  partialCtrl := 0xFF
  defaultThreshold := 128
  mirrorX := true
  rgb565ByteSwap := false
  lutMainOff := 0
  lutMainLen := 105
  lutGateOff := 105
  lutSourceOff := 106
  lutVcomOff := 109

end Sys2Proof
end

