-- ==== Sys2Proof/Machine/Operands.lean ====
section
/-! DEFINITION. How the block forms and reads the bytes it moves: byte order (20_memory.md R50), buffer and ROM reads
(R53, 10_state.md R32), chunks (40_bus_primitives.md R103), alignment and window arithmetic (45_partial_window.md R203,
46_packer.md R221). -/

namespace Sys2Proof.Machine

/-- `lo8(v) = v[7:0]` (R9). -/
def lo8 (v : Nat) : Byte := BitVec.ofNat 8 v

/-- `hi8(v) = v[15:8]` (R9). -/
def hi8 (v : Nat) : Byte := BitVec.ofNat 8 (v / 256)

/-- `LE16(v) = [lo8(v), hi8(v)]` (R9, R50). -/
def le16 (v : Nat) : List Byte := [lo8 v, hi8 v]

/-- The u16 whose LE16 bytes are `lo`, `hi` (R50). -/
def ofLe16 (lo hi : Byte) : U16 := BitVec.ofNat 16 (lo.toNat + 256 * hi.toNat)

/-- `ceil(a/b)` (R8). -/
def ceilDiv (a b : Nat) : Nat := (a + b - 1) / b

/-- `roundUp8(n)` (R8). -/
def roundUp8 (n : Nat) : Nat := (n + 7) / 8 * 8

/-- `n - (n mod 8)`, the alignment of an X start (R55, R203, R221). -/
def alignDown8 (n : Nat) : Nat := n - n % 8

/-- `MemRead(buf, off, n)` returns `buf[off..off+n)` (R53); the callers check the length first. -/
def memRead (buf : List Byte) (off n : Nat) : List Byte := (buf.drop off).take n

/-- The byte at one offset of a buffer, for an offset the caller has checked (R53); the 0 beyond the end is never
reached, since every caller checks the length before any read. -/
def memByte (buf : List Byte) (off : Nat) : Byte := buf.getD off 0

/-- `MemWrite` of one byte of the packer's output, as a read-modify-write (R53, R220). -/
def memModify (buf : List Byte) (off : Nat) (f : Byte → Byte) : List Byte := buf.modify off f

/-- Byte `i` of a waveform table (R32). R7 bounds the offsets of the main LUT and of VCOM only: where the table has no
byte the value is free (log 10). -/
def romByte (t : List Byte) (i : Nat) : Byte := t.getD i (Config.freeRomByte i)

/-- `T[off .. off+n)` (R9, R75). -/
def romSlice (t : List Byte) (off n : Nat) : List Byte := (List.range n).map fun j => romByte t (off + j)

/-- The chunks of STREAM (R103): `p[i*m .. min((i+1)*m, n))` for `i` in `0 .. ceil(n/m) - 1`. -/
def chunks (m : Nat) (p : List Byte) : List (List Byte) :=
  (List.range (ceilDiv p.length m)).map fun i => memRead p (i * m) m

/-- The RefreshWindow of `drawRegion` (R200, R203, R207). -/
def drawWindow (x y widthBits heightRows : U16) : RefreshWindow where
  xStart := alignDown8 x.toNat
  yStart := y.toNat
  columns := heightRows.toNat
  rows := widthBits.toNat

/-- The last X of a window, `xA + widthBits - 1` (R203). -/
def windowXEnd (win : RefreshWindow) : Nat := win.xStart + win.rows - 1

/-- The last Y of a window, `y + heightRows - 1` (R203). -/
def windowYEnd (win : RefreshWindow) : Nat := win.yStart + win.columns - 1

/-- The bytes of a window, `columns × rows_in_bits / 8` (R200, R205). -/
def windowBytes (win : RefreshWindow) : Nat := win.columns * win.rows / 8

end Sys2Proof.Machine
end

