-- ==== Sys2Proof/Syntax.lean ====
section
/-! DEFINITION. The block's instructions, one constructor for each row of spec/opcode_table.json: the nine host
operations (30_encoding.md R70, R71) and the nineteen controller command frames (R75, R76). -/

namespace Sys2Proof

/-- A host operation with its arguments (R71), or a command frame with the payload values its rule leaves to the
caller (R75). A literal payload (`P_BOOSTER` and the like) is carried as bytes, since it is bytes on the bus; which
bytes are the right ones is WellFormed's question. -/
inductive Instr where
  /-- 0x01 `init` (R120). -/
  | init (busHost : Byte) (dcLine rstLine busyLine csLine : LineId) (clockHz : U32)
  /-- 0x02 `deinit` (R124). -/
  | deinit
  /-- 0x03 `hardwareInit` (R140). -/
  | hardwareInit (fastMode : Bool)
  /-- 0x04 `clear` (R160). -/
  | clear (fillByte : Byte)
  /-- 0x05 `loadBaseMap` (R163). -/
  | loadBaseMap (data : BufRef) (fastMode : Bool)
  /-- 0x06 `drawRegion` (R200). -/
  | drawRegion (x y : U16) (packedBits : BufRef) (widthBits heightRows : U16) (deferRefresh : Bool)
  /-- 0x07 `triggerRefresh` (R184). -/
  | triggerRefresh
  /-- 0x08 `deepSleep` (R126). -/
  | deepSleep
  /-- 0x09 `pack` (R220); a threshold not given is the default (R71, log 6). -/
  | pack (xStart yStart width height : U16) (format : PixelFormat) (src : BufRef) (threshold : Option Byte)
  /-- 0x12 SOFT_RESET (R251). -/
  | softReset
  /-- 0x01 DRIVER_OUTPUT_CONTROL (R252): `LE16(gate) ++ tail`. -/
  | driverOutputControl (gate : U16) (tail : List Byte)
  /-- 0x0C BOOSTER_SOFT_START (R253). -/
  | boosterSoftStart (literal : List Byte)
  /-- 0x11 DATA_ENTRY_MODE (R254). -/
  | dataEntryMode (literal : List Byte)
  /-- 0x44 RAM_X_WINDOW (R255). -/
  | ramXWindow (xs xe : U16)
  /-- 0x45 RAM_Y_WINDOW (R256). -/
  | ramYWindow (ys ye : U16)
  /-- 0x4E RAM_X_COUNTER (R257). -/
  | ramXCounter (xc : U16)
  /-- 0x4F RAM_Y_COUNTER (R258). -/
  | ramYCounter (yc : U16)
  /-- 0x3C BORDER_SELECT (R259). -/
  | borderSelect (literal : List Byte)
  /-- 0x18 TEMP_SENSOR_SELECT (R260). -/
  | tempSensorSelect (literal : List Byte)
  /-- 0x24 WRITE_RAM_OLD (R261). -/
  | writeRamOld (pixels : List Byte)
  /-- 0x26 WRITE_RAM_NEW (R262). -/
  | writeRamNew (pixels : List Byte)
  /-- 0x32 WRITE_LUT (R263). -/
  | writeLut (lut : List Byte)
  /-- 0x03 GATE_TIMING (R264). -/
  | gateTiming (gate : Byte)
  /-- 0x04 SOURCE_TIMING (R265). -/
  | sourceTiming (s0 s1 s2 : Byte)
  /-- 0x2C VCOM (R266). -/
  | vcom (level : Byte)
  /-- 0x22 DISPLAY_UPDATE_CONTROL (R267). -/
  | displayUpdateControl (ctrl : Byte)
  /-- 0x20 MASTER_TRIGGER (R268). -/
  | masterTrigger
  /-- 0x10 DEEP_SLEEP (R269). -/
  | deepSleepFrame (literal : List Byte)
deriving DecidableEq, Repr

end Sys2Proof
end

