-- ==== Sys2Proof/Machine/State.lean ====
section
/-! DEFINITION. The state of the panel protocol block (10_state.md R20–R40), the events and responses it makes
(30_encoding.md R72, R73), the reasons a step can stop, and the state after reset (R40). -/

namespace Sys2Proof.Machine

/-- The stored driver state (R23). -/
inductive DriverState where
  | uninitialized
  | ready
deriving DecidableEq, Repr

/-- The driver state as the source names it, with the transient Busy (R23). -/
inductive DriverView where
  | uninitialized
  | ready
  | busy
deriving DecidableEq, Repr

/-- The level of an output line: `Undriven`, 0 or 1 (R28). -/
inductive LineState where
  | undriven
  | driven (level : Level)
deriving DecidableEq, Repr

/-- The configuration captured at `init` (R26). -/
structure PanelConfig where
  busHost : Byte
  dcLine : LineId
  rstLine : LineId
  busyLine : LineId
  csLine : LineId
  clockHz : U32
deriving DecidableEq, Repr

/-- The sequencer step pointer: `Idle | Step(k)` (R21). -/
inductive Pc where
  | idle
  | step (k : Nat)
deriving DecidableEq, Repr

/-- The port event alphabet (R73). -/
inductive Event where
  | configLines (dc rst busy cs : LineId)
  | acquireBus (busHost : Byte) (clockHz : Nat)
  | releaseBus
  | setLine (line : Line) (level : Level)
  | xfer (bytes : List Byte)
  | delay (ms : Nat)
  | sampleBusy (level : Level)
deriving DecidableEq, Repr

/-- The result kinds (R72, R300). -/
inductive Result where
  | ok
  | invalidState
  | invalidArgument
  | busError
deriving DecidableEq, Repr

/-- The `info` of a response (R72, R300). -/
inductive Info where
  | none
  | cause (c : Cause)
  | packed (window : RefreshWindow) (bytes : List Byte)
deriving DecidableEq, Repr

/-- A response: `{result, info}` (R72). -/
structure Response where
  result : Result
  info : Info
deriving DecidableEq, Repr

/-- The state of the block and of the agents around it. -/
structure State where
  /-- The configuration: parameters, geometry, waveform ROM and literals (R6, R31, R32, R35). No step writes it. -/
  params : Params
  /-- `S.drv` (R23, R24). -/
  drv : DriverState
  /-- `S.cfg` (R26). -/
  cfg : Option PanelConfig
  /-- `S.busHeld` (R27). -/
  busHeld : Bool
  /-- `S.dcLvl` (R28). -/
  dcLvl : LineState
  /-- `S.rstLvl` (R28). -/
  rstLvl : LineState
  /-- `S.cur`, the request in flight with its arguments (R22). -/
  cur : Option Instr
  /-- `S.pc` (R21). -/
  pc : Pc
  /-- The trace of port events, oldest first (R10, R73). -/
  trace : List Event
  /-- The responses sent to the host, oldest first (R72, R341). -/
  responses : List Response
  /-- The host agent: its requests still to be issued, in order (R313, log 3). -/
  requests : List HostRequest
  /-- The environment: the outcomes it will give to the next AcquireBus and Xfer events (R110, log 4). -/
  outcomes : List BusOutcome
  /-- How many outcomes have been drawn (log 4). -/
  outcomeCount : Nat
  /-- The environment: the levels the next BUSY samples will read (R104, R110, log 4). -/
  busyLevels : List Level
  /-- How many BUSY samples have been drawn (log 4). -/
  sampleCount : Nat
  /-- Which agent moves at the next choices between sequencer and packer (R230, R313, log 8). -/
  turns : List Agent
  /-- How many such choices have been made (log 8). -/
  turnCount : Nat
deriving DecidableEq, Repr

/-- `drvView(S) = if S.cur ≠ none then Busy else S.drv` (R23). -/
def State.drvView (s : State) : DriverView :=
  if s.cur = none then
    match s.drv with
    | .uninitialized => .uninitialized
    | .ready => .ready
  else .busy

/-- Why a step can fault. -/
inductive Fault where
  /-- A `drawRegion` whose window leaves the panel (R202, R304); raised by its window check, before any event.
  Safe: the spec gives the request no meaning, and the model stops where the original may go on. -/
  | windowOutOfRange
deriving DecidableEq, Repr

/-- Why a step can be refused. -/
inductive Refusal where
  /-- An instruction without a meaning yet; raised by exec's arm for it. Safe. No arm of this model raises it. -/
  | notModelled (mnemonic : String)
  /-- A host op code outside R70 (R78, R305); raised by the decoder. Safe. -/
  | unknownOperation
  /-- A `pack` format outside R77 (R78, R305); raised by the decoder. Safe. -/
  | unknownFormat
  /-- A configuration violating R7 (R305); raised by step before anything else. Safe. -/
  | illFormedConfig
  /-- A request record whose arguments are not the fields of R71; raised by the decoder. Safe: such a request cannot be
  spelled (R71). -/
  | malformedRequest
  /-- A frame opcode outside R76; raised by the frame decoder. Safe: the block emits no such frame (R78, R250). -/
  | unknownOpcode
  /-- A frame whose payload does not have its opcode's length (R79); raised by the frame decoder. Safe: the block emits
  no such frame (R250). -/
  | malformedFrame
  /-- A second sequencer request while one is in flight (R312); raised by the operation bracket. Safe: the host has no
  such move, and step never makes it. -/
  | requestInFlight
  /-- A command frame that the operation in flight does not send where it stands, or with no operation in flight; raised
  by the frames' meanings. Safe: there is no raw-command operation (R78), and the block emits a frame only inside an
  operation, with the payload that operation gives it (R250). -/
  | frameOutsideOperation
deriving DecidableEq, Repr

/-- The block after reset, the creation of a driver instance (R40, R330). The model's own fields, the host's and the
environment's, start empty (log 16). -/
def State.reset : State where
  params := Params.reference
  drv := .uninitialized
  cfg := none
  busHeld := false
  dcLvl := .undriven
  rstLvl := .undriven
  cur := none
  pc := .idle
  trace := []
  responses := []
  requests := []
  outcomes := []
  outcomeCount := 0
  busyLevels := []
  sampleCount := 0
  turns := []
  turnCount := 0

end Sys2Proof.Machine
end

