-- ==== Sys2Proof/Machine/Flags.lean ====
section
/-! DEFINITION. The conditions the rules test. The block has no flags or condition codes (10_state.md R25), so this
file holds no flag: it holds the argument checks (60_exceptions.md R303), the window check (45_partial_window.md R202),
the configuration check (00_scope.md R7) and the classification of a pixel (46_packer.md R226, R227). -/

namespace Sys2Proof.Machine

/-- The configuration check of R7. -/
def configOk (p : Params) : Bool :=
  0 < p.w && 0 < p.h && p.w % 8 = 0
    && p.w - 1 ≤ 0xFFFF && p.h - 1 ≤ 0xFFFF
    && p.wfDefault.length = 112 && p.wfFast.length = 112
    && 1 ≤ p.maxTxn
    && p.lutMainLen = 105 && p.lutMainOff + 105 ≤ 112 && p.lutVcomOff < 112

/-- `LINE_ID_VALID` (R6). -/
def lineIdValid (p : Params) (id : LineId) : Bool := p.validLines.contains id

/-- The argument check of `init`: all four identifiers are valid (R120). -/
def initLinesOk (p : Params) (dc rst busy cs : LineId) : Bool :=
  lineIdValid p dc && lineIdValid p rst && lineIdValid p busy && lineIdValid p cs

/-- `packedBits ≠ null`, `src ≠ null` (R201, R223). -/
def bufPresent (b : BufRef) : Bool := b.isSome

/-- The bytes of a buffer that a check has found present. -/
def bufBytes (b : BufRef) : List Byte := b.getD []

/-- The argument check of `loadBaseMap`: present, and exactly `FRAME_BYTES` long (R163). -/
def baseMapOk (p : Params) (data : BufRef) : Bool :=
  match data with
  | none => false
  | some bytes => bytes.length = p.frameBytes

/-- R201, second check: neither dimension is zero. -/
def dimsNonzero (widthBits heightRows : U16) : Bool := widthBits.toNat ≠ 0 && heightRows.toNat ≠ 0

/-- R201, third check: the width is a multiple of 8. -/
def widthAligned (widthBits : U16) : Bool := widthBits.toNat % 8 = 0

/-- R201, fourth check: the buffer has exactly the window's bytes. -/
def regionLengthOk (bits : BufRef) (win : RefreshWindow) : Bool := (bufBytes bits).length = windowBytes win

/-- The window range check of R202: not `xe ≥ W` and not `ye ≥ H`. -/
def windowInPanel (p : Params) (win : RefreshWindow) : Bool := windowXEnd win < p.w && windowYEnd win < p.h

/-- Bytes per pixel of a format (R77). -/
def bytesPerPixel : PixelFormat → Nat
  | .rgb565 => 2
  | .l8 => 1
  | .bgr888 => 3
  | .bgra8888 => 4

/-- The argument checks of `pack`: no zero dimension, and a source that is present and not short (R223). -/
def packArgsOk (width height : U16) (format : PixelFormat) (src : BufRef) : Bool :=
  width.toNat ≠ 0 && height.toNat ≠ 0
    && match src with
      | none => false
      | some bytes => width.toNat * height.toNat * bytesPerPixel format ≤ bytes.length

/-- `lum100 = 30*R + 59*G + 11*B` (R226). -/
def lum100 (r g b : Nat) : Nat := 30 * r + 59 * g + 11 * b

/-- A pixel is ink if and only if `lum100 < threshold*100` (R227). -/
def isInk (rgb : Nat × Nat × Nat) (threshold : Byte) : Bool :=
  lum100 rgb.1 rgb.2.1 rgb.2.2 < threshold.toNat * 100

end Sys2Proof.Machine
end

