-- ==== Sys2Proof/Machine/Ops.lean ====
section
/-! DEFINITION. The named operations on the state: emitting an event, taking a draw, ending an operation with a result
or by raising an error (60_exceptions.md R300, R302, R309), and one step of the sequencer through the script of the
request in flight (10_state.md R21, R22; 40_bus_primitives.md R109). -/

namespace Sys2Proof.Machine

/-! ## Events and line levels -/

/-- `emit e` (R10). -/
def State.emit (s : State) (e : Event) : State := { s with trace := s.trace ++ [e] }

/-- A `SetLine` writes the level it names (R28, R58). -/
def State.drive (s : State) (line : Line) (level : Level) : State :=
  match line with
  | .dc => { s with dcLvl := .driven level }
  | .rst => { s with rstLvl := .driven level }

/-! ## Draws (R110): what the state supplies, else a free value -/

/-- The outcome of the next `AcquireBus` or `Xfer`. -/
def State.outcome (s : State) : BusOutcome := s.outcomes.headD (Config.freeOutcome s.outcomeCount)

/-- The state once that outcome is drawn. -/
def State.takeOutcome (s : State) : State :=
  { s with outcomes := s.outcomes.tail, outcomeCount := s.outcomeCount + 1 }

/-- The level the next BUSY sample reads (R29, R104). -/
def State.busyLevel (s : State) : Level := s.busyLevels.headD (Config.freeBusy s.sampleCount)

/-- The state once that level is drawn. -/
def State.takeSample (s : State) : State :=
  { s with busyLevels := s.busyLevels.tail, sampleCount := s.sampleCount + 1 }

/-- Which agent moves at the next choice (R230, R313). -/
def State.turn (s : State) : Agent := s.turns.headD (Config.freeTurn s.turnCount)

/-- The state once that choice is made. -/
def State.takeTurn (s : State) : State := { s with turns := s.turns.tail, turnCount := s.turnCount + 1 }

/-! ## The operation bracket -/

/-- The start of a sequencer operation: `S.cur <- q`, `S.pc <- Step(0)` (R109). -/
def State.accept (s : State) (q : Instr) : State := { s with cur := some q, pc := .step 0 }

/-- `S.pc <- Step(k)` (R21). -/
def State.goto (s : State) (k : Nat) : State := { s with pc := .step k }

/-- Send a response to the host (R72). -/
def State.respond (s : State) (r : Response) : State := { s with responses := s.responses ++ [r] }

/-- The end of an operation, with a result or by an error: `S.cur <- none`, `S.pc <- Idle`, the response is sent, and
no other state changes (R109, R309). -/
def State.finish (s : State) (r : Response) : State := { s.respond r with cur := none, pc := .idle }

/-- The response `Ok` without info (R72). -/
def Response.ok : Response := ⟨.ok, .none⟩

/-- The response `InvalidState` (R300). -/
def Response.invalidState : Response := ⟨.invalidState, .none⟩

/-- The response `InvalidArgument` (R300). -/
def Response.invalidArgument : Response := ⟨.invalidArgument, .none⟩

/-- The response `BusError(c)`, which carries the transport's cause unchanged (R300). -/
def Response.busError (c : Cause) : Response := ⟨.busError, .cause c⟩

/-- The numeric result codes (R72, R300). -/
def resultCode : Result → Byte
  | .ok => 0
  | .invalidState => 1
  | .invalidArgument => 2
  | .busError => 3

/-- What a step of the block answers. -/
abbrev Answer := Host.Outcome State Fault Refusal

/-- `raise E(info)`: taking an error, the one operation every error goes through (R10, R309). There is no handler and
no return from it (R310): the operation is over. -/
def raise (s : State) (r : Response) : Answer := .next (s.finish r)

/-! ## `init` and `deinit` -/

/-- `clk(cfg)`: the clock, or the default when unset (R26). -/
def effectiveClock (p : Params) (cfg : PanelConfig) : Nat :=
  if cfg.clockHz = 0 then p.defaultClockHz else cfg.clockHz.toNat

/-- The success writes of `init` (R121). -/
def State.acquired (s : State) (cfg : PanelConfig) : State :=
  { s with cfg := some cfg, busHeld := true, drv := .ready }

/-- The writes of `deinit` (R124). -/
def State.released (s : State) : State := { s with busHeld := false, cfg := none, drv := .uninitialized }

/-! ## Scripts -/

/-- One entry of an operation's script, "the flat list of steps its rule gives" (R21). A check emits nothing; every
other entry emits exactly one port event. -/
inductive Act where
  /-- `if S.drv ≠ Ready then raise InvalidState` (R108). -/
  | requireReady
  /-- `if S.drv = Ready then raise InvalidState` (R120). -/
  | requireUninitialized
  /-- `if S.drv = Uninitialized then return Ok` (R124). -/
  | returnIfUninitialized
  /-- An argument check: `if not … then raise InvalidArgument` (R303). -/
  | requireArg (holds : Bool)
  /-- The window check: `fault WindowOutOfRange` unless it holds (R202). -/
  | requireWindow (holds : Bool)
  /-- `emit ConfigLines`, which drives DC and RST to 1 (R120). -/
  | configLines (dc rst busy cs : LineId)
  /-- `emit AcquireBus`, then the success writes or `raise BusError` (R120–R122). -/
  | acquireBus (cfg : PanelConfig)
  /-- `emit ReleaseBus` and the writes of `deinit` (R124). -/
  | releaseBus
  /-- `emit SetLine(L, lvl)` (R101, R105). -/
  | setLine (line : Line) (level : Level)
  /-- `emit Xfer(bytes)`, then `raise BusError` if it failed (R101). -/
  | xfer (bytes : List Byte)
  /-- `emit Delay(ms)` (R105). -/
  | delay (ms : Nat)
  /-- The sample of a busy wait: on 0 the wait is over, on 1 its delay follows (R104). -/
  | sampleBusy
  /-- The delay of a busy wait, which sets `pc` back to its own sample (R21, R104). -/
  | pollDelay (ms : Nat)
deriving DecidableEq, Repr

/-- Entry `k` of a script, performed: its event and the writes its rule gives, in one step (log 11). -/
def perform (a : Act) (k : Nat) (s : State) : Answer :=
  match a with
  | .requireReady => if s.drv = .ready then .next (s.goto (k + 1)) else raise s .invalidState
  | .requireUninitialized => if s.drv = .ready then raise s .invalidState else .next (s.goto (k + 1))
  | .returnIfUninitialized => if s.drv = .uninitialized then .next (s.finish .ok) else .next (s.goto (k + 1))
  | .requireArg holds => if holds then .next (s.goto (k + 1)) else raise s .invalidArgument
  | .requireWindow holds => if holds then .next (s.goto (k + 1)) else .fault .windowOutOfRange
  | .configLines dc rst busy cs =>
    .next ((((s.emit (.configLines dc rst busy cs)).drive .dc .high).drive .rst .high).goto (k + 1))
  | .acquireBus cfg =>
    match s.outcome with
    | .ok =>
      .next (((s.takeOutcome.emit (.acquireBus cfg.busHost (effectiveClock s.params cfg))).acquired cfg).goto (k + 1))
    | .fail c => raise (s.takeOutcome.emit (.acquireBus cfg.busHost (effectiveClock s.params cfg))) (.busError c)
  | .releaseBus => .next ((s.emit .releaseBus).released.goto (k + 1))
  | .setLine line level => .next (((s.emit (.setLine line level)).drive line level).goto (k + 1))
  | .xfer bytes =>
    match s.outcome with
    | .ok => .next ((s.takeOutcome.emit (.xfer bytes)).goto (k + 1))
    | .fail c => raise (s.takeOutcome.emit (.xfer bytes)) (.busError c)
  | .delay ms => .next ((s.emit (.delay ms)).goto (k + 1))
  | .sampleBusy =>
    match s.busyLevel with
    | .low => .next ((s.takeSample.emit (.sampleBusy .low)).goto (k + 2))
    | .high => .next ((s.takeSample.emit (.sampleBusy .high)).goto (k + 1))
  | .pollDelay ms => .next ((s.emit (.delay ms)).goto (k - 1))

/-- One step of the sequencer for request `q`, whose script is given (R109). When the block is idle the request is
accepted. When `q` is in flight at `Step(k)`, entry `k` of its script is performed; past the last entry the script has
ended, and the operation ends with `Ok` (log 5, log 15). A second request has no step (R312, log 7). -/
def runScript (q : Instr) (script : List Act) (s : State) : Answer :=
  match s.pc with
  | .idle => .next (s.accept q)
  | .step k =>
    if s.cur = some q then
      match script[k]? with
      | some a => perform a k s
      | none => .next (s.finish .ok)
    else .refused .requestInFlight

end Sys2Proof.Machine
end

