-- ==== Sys2Proof/Machine/Primitives.lean ====
section
/-! DEFINITION. The bus primitives as pieces of scripts (40_bus_primitives.md R101–R107). -/

namespace Sys2Proof.Machine

/-- The DC level of a mode (R74, R101). -/
def modeLevel (p : Params) : Mode → Level
  | .command => p.dcCmdLevel
  | .data => p.dcCmdLevel.other

/-- `SEND(mode, bytes)` (R101). -/
def send (p : Params) (mode : Mode) (bytes : List Byte) : List Act :=
  [.setLine .dc (modeLevel p mode), .xfer bytes]

/-- `STREAM(p)` (R103). -/
def stream (p : Params) (payload : List Byte) : List Act :=
  (chunks p.maxTxn payload).flatMap (send p .data)

/-- `CMD(op, payload)`; an empty payload has no data transaction (R102). -/
def cmd (p : Params) (op : Byte) (payload : List Byte) : List Act :=
  send p .command [op] ++ if 0 < payload.length then stream p payload else []

/-- `WAIT_BUSY`: the sample, and the delay that leads back to it (R104). -/
def waitBusy (p : Params) : List Act := [.sampleBusy, .pollDelay p.busyPollMs]

/-- `RESET_PULSE` (R105). -/
def resetPulse (p : Params) : List Act :=
  [.setLine .rst .low, .delay p.resetHoldMs, .setLine .rst .high, .delay p.resetHoldMs]

end Sys2Proof.Machine
end

