-- ==== Sys2Proof/Machine/Frames.lean ====
section
/-! DEFINITION. The nineteen controller command frames as the operations send them (47_controller_commands.md R250–R269;
30_encoding.md R75), and the pieces an operation is made of: acts of its own, and frames. Each frame is `CMD(op, payload)`,
and three of them end with the busy wait their rules put after them. No frame changes block state other than `S.dcLvl`. -/

namespace Sys2Proof.Machine

/-- SOFT_RESET, and the busy wait after it (R251). -/
def softResetActs (p : Params) : List Act := cmd p 0x12 [] ++ waitBusy p

/-- DRIVER_OUTPUT_CONTROL (R252). -/
def driverOutputControlActs (p : Params) (gate : U16) (tail : List Byte) : List Act := cmd p 0x01 (le16 gate.toNat ++ tail)

/-- BOOSTER_SOFT_START (R253). -/
def boosterSoftStartActs (p : Params) (literal : List Byte) : List Act := cmd p 0x0C literal

/-- DATA_ENTRY_MODE (R254). -/
def dataEntryModeActs (p : Params) (literal : List Byte) : List Act := cmd p 0x11 literal

/-- RAM_X_WINDOW (R255). -/
def ramXWindowActs (p : Params) (xs xe : U16) : List Act := cmd p 0x44 (le16 xs.toNat ++ le16 xe.toNat)

/-- RAM_Y_WINDOW (R256). -/
def ramYWindowActs (p : Params) (ys ye : U16) : List Act := cmd p 0x45 (le16 ys.toNat ++ le16 ye.toNat)

/-- RAM_X_COUNTER (R257). -/
def ramXCounterActs (p : Params) (xc : U16) : List Act := cmd p 0x4E (le16 xc.toNat)

/-- RAM_Y_COUNTER (R258). -/
def ramYCounterActs (p : Params) (yc : U16) : List Act := cmd p 0x4F (le16 yc.toNat)

/-- BORDER_SELECT (R259). -/
def borderSelectActs (p : Params) (literal : List Byte) : List Act := cmd p 0x3C literal

/-- TEMP_SENSOR_SELECT (R260). -/
def tempSensorSelectActs (p : Params) (literal : List Byte) : List Act := cmd p 0x18 literal

/-- WRITE_RAM_OLD (R261). -/
def writeRamOldActs (p : Params) (pixels : List Byte) : List Act := cmd p 0x24 pixels

/-- WRITE_RAM_NEW (R262). -/
def writeRamNewActs (p : Params) (pixels : List Byte) : List Act := cmd p 0x26 pixels

/-- WRITE_LUT, and the busy wait after it (R263). -/
def writeLutActs (p : Params) (lut : List Byte) : List Act := cmd p 0x32 lut ++ waitBusy p

/-- GATE_TIMING (R264). -/
def gateTimingActs (p : Params) (gate : Byte) : List Act := cmd p 0x03 [gate]

/-- SOURCE_TIMING (R265). -/
def sourceTimingActs (p : Params) (s0 s1 s2 : Byte) : List Act := cmd p 0x04 [s0, s1, s2]

/-- VCOM (R266). -/
def vcomActs (p : Params) (level : Byte) : List Act := cmd p 0x2C [level]

/-- DISPLAY_UPDATE_CONTROL (R267). -/
def displayUpdateControlActs (p : Params) (ctrl : Byte) : List Act := cmd p 0x22 [ctrl]

/-- MASTER_TRIGGER, and the busy wait after it (R268). -/
def masterTriggerActs (p : Params) : List Act := cmd p 0x20 [] ++ waitBusy p

/-- DEEP_SLEEP (R269). -/
def deepSleepFrameActs (p : Params) (literal : List Byte) : List Act := cmd p 0x10 literal

/-- The acts of a command frame; a host operation is no frame. -/
def frameActs (p : Params) : Instr → List Act
  | .init _ _ _ _ _ _ => []
  | .deinit => []
  | .hardwareInit _ => []
  | .clear _ => []
  | .loadBaseMap _ _ => []
  | .drawRegion _ _ _ _ _ _ => []
  | .triggerRefresh => []
  | .deepSleep => []
  | .pack _ _ _ _ _ _ _ => []
  | .softReset => softResetActs p
  | .driverOutputControl gate tail => driverOutputControlActs p gate tail
  | .boosterSoftStart literal => boosterSoftStartActs p literal
  | .dataEntryMode literal => dataEntryModeActs p literal
  | .ramXWindow xs xe => ramXWindowActs p xs xe
  | .ramYWindow ys ye => ramYWindowActs p ys ye
  | .ramXCounter xc => ramXCounterActs p xc
  | .ramYCounter yc => ramYCounterActs p yc
  | .borderSelect literal => borderSelectActs p literal
  | .tempSensorSelect literal => tempSensorSelectActs p literal
  | .writeRamOld pixels => writeRamOldActs p pixels
  | .writeRamNew pixels => writeRamNewActs p pixels
  | .writeLut lut => writeLutActs p lut
  | .gateTiming gate => gateTimingActs p gate
  | .sourceTiming s0 s1 s2 => sourceTimingActs p s0 s1 s2
  | .vcom level => vcomActs p level
  | .displayUpdateControl ctrl => displayUpdateControlActs p ctrl
  | .masterTrigger => masterTriggerActs p
  | .deepSleepFrame literal => deepSleepFrameActs p literal

/-- A piece of an operation: acts of its own, or a command frame it sends. -/
inductive Piece where
  | own (acts : List Act)
  | frame (f : Instr)
deriving DecidableEq, Repr

/-- The acts of one piece. -/
def pieceActs (p : Params) : Piece → List Act
  | .own acts => acts
  | .frame f => frameActs p f

/-- The acts of a list of pieces, one after the other: "the flat list of steps its rule gives" (R21). -/
def flatten (p : Params) (ps : List Piece) : List Act := ps.flatMap (pieceActs p)

/-- The frame that position `k` of the flat list lies in, and how far into it; none where the operation's own acts lie. -/
def frameAt (p : Params) : List Piece → Nat → Option (Instr × Nat)
  | [], _ => none
  | .own acts :: rest, k => if k < acts.length then none else frameAt p rest (k - acts.length)
  | .frame f :: rest, k =>
    if k < (frameActs p f).length then some (f, k) else frameAt p rest (k - (frameActs p f).length)

/-- The position in the flat list at which the first frame with the given opcode starts. -/
def frameStart (p : Params) (opcode : Byte) : List Piece → Option Nat
  | [] => none
  | .own acts :: rest => (frameStart p opcode rest).map (acts.length + ·)
  | .frame f :: rest =>
    if (frameActs p f)[1]? = some (.xfer [opcode]) then some 0
    else (frameStart p opcode rest).map ((frameActs p f).length + ·)

end Sys2Proof.Machine
end

