-- ==== Sys2Proof/Machine/Refresh.lean ====
section
/-! DEFINITION. LUT programming, the two refresh triggers and `triggerRefresh` (44_refresh_trigger.md R180–R186). -/

namespace Sys2Proof.Machine

/-- `LOAD_LUT(T)`: the main LUT, whose frame ends with a busy wait, then gate timing, source timing and VCOM without
waits; the table's remaining bytes are never sent (R180, R186). -/
def loadLut (p : Params) (t : List Byte) : List Piece :=
  [.frame (.writeLut (romSlice t p.lutMainOff p.lutMainLen)),
   .frame (.gateTiming (romByte t p.lutGateOff)),
   .frame (.sourceTiming (romByte t p.lutSourceOff) (romByte t (p.lutSourceOff + 1)) (romByte t (p.lutSourceOff + 2))),
   .frame (.vcom (romByte t p.lutVcomOff))]

/-- Display update control with the given byte, then the master trigger, whose frame ends with a busy wait (R142, R181,
R182). -/
def updateAndTrigger (ctrl : Byte) : List Piece := [.frame (.displayUpdateControl ctrl), .frame .masterTrigger]

/-- `FULL_TRIGGER` (R181). -/
def fullTrigger (p : Params) : List Piece := loadLut p p.wfDefault ++ updateAndTrigger p.fullCtrl

/-- `PARTIAL_TRIGGER` (R182). -/
def partialTrigger (p : Params) : List Piece := loadLut p p.wfFast ++ updateAndTrigger p.partialCtrl

/-- The pieces of `triggerRefresh` (R184). -/
def triggerRefreshPieces (p : Params) : List Piece := .own [.requireReady] :: partialTrigger p

/-- The script of `triggerRefresh` (R184). -/
def triggerRefreshScript (p : Params) : List Act := flatten p (triggerRefreshPieces p)

/-- `triggerRefresh()` (R184). -/
def execTriggerRefresh (s : State) : Answer := runScript .triggerRefresh (triggerRefreshScript s.params) s

end Sys2Proof.Machine
end

