-- ==== Sys2Proof/Machine/Window.lean ====
section
/-! DEFINITION. Window addressing as pieces of operations (40_bus_primitives.md R106, R107). -/

namespace Sys2Proof.Machine

/-- `SET_WINDOW(xs, xe, ys, ye)`: X window, Y window, X counter, Y counter, the counters at the window's start (R106). -/
def setWindow (xs xe ys ye : Nat) : List Piece :=
  [.frame (.ramXWindow (BitVec.ofNat 16 xs) (BitVec.ofNat 16 xe)),
   .frame (.ramYWindow (BitVec.ofNat 16 ys) (BitVec.ofNat 16 ye)),
   .frame (.ramXCounter (BitVec.ofNat 16 xs)),
   .frame (.ramYCounter (BitVec.ofNat 16 ys))]

/-- `SET_FULL_WINDOW` is `SET_WINDOW(0, W-1, 0, H-1)` (R107). -/
def setFullWindow (p : Params) : List Piece := setWindow 0 (p.w - 1) 0 (p.h - 1)

end Sys2Proof.Machine
end

