-- ==== Sys2Proof/Machine/BringUp.lean ====
section
/-! DEFINITION. `hardwareInit` (42_bringup.md R140–R145). -/

namespace Sys2Proof.Machine

/-- Step 4 of bring-up, in the source's listing order, with no wait between frames (R141). -/
def programRegisters (p : Params) : List Piece :=
  [.frame (.driverOutputControl (BitVec.ofNat 16 (p.h - 1)) p.pDrvOutTail),
   .frame (.boosterSoftStart p.pBooster),
   .frame (.dataEntryMode p.pDataEntry)]
    ++ setFullWindow p
    ++ [.frame (.borderSelect p.pBorder), .frame (.tempSensorSelect p.pTempSensor)]

/-- The pieces of `hardwareInit`: the reset pulse and a busy wait, the soft reset with its own, the registers, and the
clean-start refresh (R142); it loads no LUT (R140, R145). -/
def hardwareInitPieces (p : Params) : List Piece :=
  [.own [.requireReady], .own (resetPulse p ++ waitBusy p), .frame .softReset]
    ++ programRegisters p ++ updateAndTrigger p.cleanStartCtrl

/-- The script of `hardwareInit` (R140). -/
def hardwareInitScript (p : Params) : List Act := flatten p (hardwareInitPieces p)

/-- `hardwareInit(fastMode)`: the argument is accepted and has no effect (R140, R144). -/
def execHardwareInit (fastMode : Bool) (s : State) : Answer :=
  runScript (.hardwareInit fastMode) (hardwareInitScript s.params) s

end Sys2Proof.Machine
end

