-- ==== Sys2Proof/Machine/FullUpdate.lean ====
section
/-! DEFINITION. `clear` and `loadBaseMap` (43_full_update.md R160–R165). -/

namespace Sys2Proof.Machine

/-- The pieces of `clear`: the full window, the fill to plane 0x24 alone, a full refresh (R160, R162). -/
def clearPieces (p : Params) (fillByte : Byte) : List Piece :=
  .own [.requireReady] :: (setFullWindow p
    ++ [.frame (.writeRamOld (List.replicate p.frameBytes fillByte))] ++ fullTrigger p)

/-- The script of `clear` (R160). -/
def clearScript (p : Params) (fillByte : Byte) : List Act := flatten p (clearPieces p fillByte)

/-- `clear(fillByte)` (R160). -/
def execClear (fillByte : Byte) (s : State) : Answer :=
  runScript (.clear fillByte) (clearScript s.params fillByte) s

/-- The LUT and control byte of `loadBaseMap` (R164). -/
def baseMapTrigger (p : Params) (fastMode : Bool) : List Piece :=
  if fastMode then partialTrigger p else fullTrigger p

/-- The pieces of `loadBaseMap`: the same bytes to both planes, no counter frames between them (R163). -/
def loadBaseMapPieces (p : Params) (data : BufRef) (fastMode : Bool) : List Piece :=
  let img := memRead (bufBytes data) 0 p.frameBytes
  .own [.requireReady, .requireArg (baseMapOk p data)]
    :: (setFullWindow p ++ [.frame (.writeRamOld img), .frame (.writeRamNew img)] ++ baseMapTrigger p fastMode)

/-- The script of `loadBaseMap` (R163). -/
def loadBaseMapScript (p : Params) (data : BufRef) (fastMode : Bool) : List Act :=
  flatten p (loadBaseMapPieces p data fastMode)

/-- `loadBaseMap(data, fastMode)` (R163–R165). -/
def execLoadBaseMap (data : BufRef) (fastMode : Bool) (s : State) : Answer :=
  runScript (.loadBaseMap data fastMode) (loadBaseMapScript s.params data fastMode) s

end Sys2Proof.Machine
end

