-- ==== Sys2Proof/Machine/Lifecycle.lean ====
section
/-! DEFINITION. `init`, `deinit` and `deepSleep` (41_lifecycle.md R120–R126). -/

namespace Sys2Proof.Machine

/-- The pieces of `init`: the argument check, the state check, the line configuration, the bus (R120). -/
def initPieces (p : Params) (cfg : PanelConfig) : List Piece :=
  [.own
    [.requireArg (initLinesOk p cfg.dcLine cfg.rstLine cfg.busyLine cfg.csLine),
     .requireUninitialized,
     .configLines cfg.dcLine cfg.rstLine cfg.busyLine cfg.csLine,
     .acquireBus cfg]]

/-- The script of `init` (R120). -/
def initScript (p : Params) (cfg : PanelConfig) : List Act := flatten p (initPieces p cfg)

/-- `init(busHost, dcLine, rstLine, busyLine, csLine, clockHz)` (R120–R123). -/
def execInit (busHost : Byte) (dcLine rstLine busyLine csLine : LineId) (clockHz : U32) (s : State) : Answer :=
  runScript (.init busHost dcLine rstLine busyLine csLine clockHz)
    (initScript s.params ⟨busHost, dcLine, rstLine, busyLine, csLine, clockHz⟩) s

/-- The pieces of `deinit` (R124): it never raises `InvalidState` (R125). -/
def deinitPieces : List Piece := [.own [.returnIfUninitialized, .releaseBus]]

/-- The script of `deinit` (R124). -/
def deinitScript (p : Params) : List Act := flatten p deinitPieces

/-- `deinit()` (R124, R125). -/
def execDeinit (s : State) : Answer := runScript .deinit (deinitScript s.params) s

/-- The pieces of `deepSleep`: one frame, no busy wait, no block state but `S.dcLvl` (R126, R318). -/
def deepSleepPieces (p : Params) : List Piece := [.own [.requireReady], .frame (.deepSleepFrame p.pDeepSleep)]

/-- The script of `deepSleep` (R126). -/
def deepSleepScript (p : Params) : List Act := flatten p (deepSleepPieces p)

/-- `deepSleep()` (R126). -/
def execDeepSleep (s : State) : Answer := runScript .deepSleep (deepSleepScript s.params) s

end Sys2Proof.Machine
end

