-- ==== Sys2Proof/Machine/PartialWindow.lean ====
section
/-! DEFINITION. `drawRegion` (45_partial_window.md R200–R207). -/

namespace Sys2Proof.Machine

/-- `CHECK_ARGS` of `drawRegion`, in its order (R201). -/
def drawChecks (packedBits : BufRef) (widthBits heightRows : U16) (win : RefreshWindow) : List Act :=
  [.requireArg (bufPresent packedBits),
   .requireArg (dimsNonzero widthBits heightRows),
   .requireArg (widthAligned widthBits),
   .requireArg (regionLengthOk packedBits win)]

/-- The pieces of `drawRegion`: the checks, the window check before any event (R202), a reset pulse with no wait
(R204), the window, the pixel stream (R205), and the refresh unless it is deferred (R206). -/
def drawRegionPieces (p : Params) (x y : U16) (packedBits : BufRef) (widthBits heightRows : U16)
    (deferRefresh : Bool) : List Piece :=
  let win := drawWindow x y widthBits heightRows
  let img := memRead (bufBytes packedBits) 0 (windowBytes win)
  [.own (.requireReady :: drawChecks packedBits widthBits heightRows win ++ [.requireWindow (windowInPanel p win)]),
   .own (resetPulse p)]
    ++ setWindow win.xStart (windowXEnd win) win.yStart (windowYEnd win)
    ++ [.frame (.writeRamOld img)]
    ++ if deferRefresh then [] else partialTrigger p

/-- The script of `drawRegion` (R200). -/
def drawRegionScript (p : Params) (x y : U16) (packedBits : BufRef) (widthBits heightRows : U16)
    (deferRefresh : Bool) : List Act :=
  flatten p (drawRegionPieces p x y packedBits widthBits heightRows deferRefresh)

/-- `drawRegion(x, y, packedBits, widthBits, heightRows, deferRefresh)` (R200). -/
def execDrawRegion (x y : U16) (packedBits : BufRef) (widthBits heightRows : U16) (deferRefresh : Bool)
    (s : State) : Answer :=
  runScript (.drawRegion x y packedBits widthBits heightRows deferRefresh)
    (drawRegionScript s.params x y packedBits widthBits heightRows deferRefresh) s

end Sys2Proof.Machine
end

