-- ==== Sys2Proof/Machine/Script.lean ====
section
/-! DEFINITION. The pieces and the script of every operation, in one place, and the frame the sequencer is sending
(10_state.md R21; 47_controller_commands.md R250). -/

namespace Sys2Proof.Machine

/-- The pieces of an instruction. `pack` is no script (R230), and a frame is a piece of operations, not one itself (R78). -/
def pieces (p : Params) : Instr → List Piece
  | .init bus dc rst busy cs hz => initPieces p ⟨bus, dc, rst, busy, cs, hz⟩
  | .deinit => deinitPieces
  | .hardwareInit _ => hardwareInitPieces p
  | .clear fill => clearPieces p fill
  | .loadBaseMap data fast => loadBaseMapPieces p data fast
  | .drawRegion x y bits wb hr defer => drawRegionPieces p x y bits wb hr defer
  | .triggerRefresh => triggerRefreshPieces p
  | .deepSleep => deepSleepPieces p
  | .pack _ _ _ _ _ _ _ => []
  | .softReset => []
  | .driverOutputControl _ _ => []
  | .boosterSoftStart _ => []
  | .dataEntryMode _ => []
  | .ramXWindow _ _ => []
  | .ramYWindow _ _ => []
  | .ramXCounter _ => []
  | .ramYCounter _ => []
  | .borderSelect _ => []
  | .tempSensorSelect _ => []
  | .writeRamOld _ => []
  | .writeRamNew _ => []
  | .writeLut _ => []
  | .gateTiming _ => []
  | .sourceTiming _ _ _ => []
  | .vcom _ => []
  | .displayUpdateControl _ => []
  | .masterTrigger => []
  | .deepSleepFrame _ => []

/-- The script of an instruction, "the flat list of steps its rule gives" (R21). -/
def script (p : Params) (i : Instr) : List Act := flatten p (pieces p i)

/-- The frame that the operation in flight is sending, and how far into it; none between frames (R21, R22). -/
def State.sending (s : State) : Option (Instr × Nat) :=
  match s.cur, s.pc with
  | some q, .step k => frameAt s.params (pieces s.params q) k
  | _, _ => none

end Sys2Proof.Machine
end

