-- ==== Sys2Proof/Machine/Issue.lean ====
section
/-! DEFINITION. The meanings of the nineteen controller command frames (47_controller_commands.md R250–R269). A frame is
issued by the sequencer inside the operation in flight, which gives it its payload and its place; "there is no raw-command
operation" (30_encoding.md R78), so a frame asked for anywhere else is refused (log 1). -/

namespace Sys2Proof.Machine

/-- One step of frame `f`, whose acts are given: where the operation in flight stands inside that frame, the act it stands
at is performed (R21, R250). -/
def runFrame (f : Instr) (acts : List Act) (s : State) : Answer :=
  match s.pc, s.sending with
  | .step k, some (g, j) =>
    match if g = f then acts[j]? else none with
    | some a => perform a k s
    | none => .refused .frameOutsideOperation
  | _, _ => .refused .frameOutsideOperation

/-- SOFT_RESET (R251). -/
def execSoftReset (s : State) : Answer := runFrame .softReset (softResetActs s.params) s

/-- DRIVER_OUTPUT_CONTROL (R252). -/
def execDriverOutputControl (gate : U16) (tail : List Byte) (s : State) : Answer := runFrame (.driverOutputControl gate tail) (driverOutputControlActs s.params gate tail) s

/-- BOOSTER_SOFT_START (R253). -/
def execBoosterSoftStart (literal : List Byte) (s : State) : Answer := runFrame (.boosterSoftStart literal) (boosterSoftStartActs s.params literal) s

/-- DATA_ENTRY_MODE (R254). -/
def execDataEntryMode (literal : List Byte) (s : State) : Answer := runFrame (.dataEntryMode literal) (dataEntryModeActs s.params literal) s

/-- RAM_X_WINDOW (R255). -/
def execRamXWindow (xs xe : U16) (s : State) : Answer := runFrame (.ramXWindow xs xe) (ramXWindowActs s.params xs xe) s

/-- RAM_Y_WINDOW (R256). -/
def execRamYWindow (ys ye : U16) (s : State) : Answer := runFrame (.ramYWindow ys ye) (ramYWindowActs s.params ys ye) s

/-- RAM_X_COUNTER (R257). -/
def execRamXCounter (xc : U16) (s : State) : Answer := runFrame (.ramXCounter xc) (ramXCounterActs s.params xc) s

/-- RAM_Y_COUNTER (R258). -/
def execRamYCounter (yc : U16) (s : State) : Answer := runFrame (.ramYCounter yc) (ramYCounterActs s.params yc) s

/-- BORDER_SELECT (R259). -/
def execBorderSelect (literal : List Byte) (s : State) : Answer := runFrame (.borderSelect literal) (borderSelectActs s.params literal) s

/-- TEMP_SENSOR_SELECT (R260). -/
def execTempSensorSelect (literal : List Byte) (s : State) : Answer := runFrame (.tempSensorSelect literal) (tempSensorSelectActs s.params literal) s

/-- WRITE_RAM_OLD (R261). -/
def execWriteRamOld (pixels : List Byte) (s : State) : Answer := runFrame (.writeRamOld pixels) (writeRamOldActs s.params pixels) s

/-- WRITE_RAM_NEW (R262). -/
def execWriteRamNew (pixels : List Byte) (s : State) : Answer := runFrame (.writeRamNew pixels) (writeRamNewActs s.params pixels) s

/-- WRITE_LUT (R263). -/
def execWriteLut (lut : List Byte) (s : State) : Answer := runFrame (.writeLut lut) (writeLutActs s.params lut) s

/-- GATE_TIMING (R264). -/
def execGateTiming (gate : Byte) (s : State) : Answer := runFrame (.gateTiming gate) (gateTimingActs s.params gate) s

/-- SOURCE_TIMING (R265). -/
def execSourceTiming (s0 s1 s2 : Byte) (s : State) : Answer := runFrame (.sourceTiming s0 s1 s2) (sourceTimingActs s.params s0 s1 s2) s

/-- VCOM (R266). -/
def execVcom (level : Byte) (s : State) : Answer := runFrame (.vcom level) (vcomActs s.params level) s

/-- DISPLAY_UPDATE_CONTROL (R267). -/
def execDisplayUpdateControl (ctrl : Byte) (s : State) : Answer := runFrame (.displayUpdateControl ctrl) (displayUpdateControlActs s.params ctrl) s

/-- MASTER_TRIGGER (R268). -/
def execMasterTrigger (s : State) : Answer := runFrame .masterTrigger (masterTriggerActs s.params) s

/-- DEEP_SLEEP (R269). -/
def execDeepSleepFrame (literal : List Byte) (s : State) : Answer := runFrame (.deepSleepFrame literal) (deepSleepFrameActs s.params literal) s

end Sys2Proof.Machine
end

