-- ==== Sys2Proof/Machine/Packer.lean ====
section
/-! DEFINITION. The framebuffer bit-packer, a stateless agent (46_packer.md R220–R231). -/

namespace Sys2Proof.Machine

/-- The 16-bit word of an RGB565 pixel's two bytes (R52, R224). -/
def rgb565Word (swap : Bool) (p0 p1 : Byte) : Nat :=
  if swap then (p0.toNat <<< 8) ||| p1.toNat else p0.toNat ||| (p1.toNat <<< 8)

/-- `v[hi:lo]`, as an unsigned value (R8). -/
def bitField (v hi lo : Nat) : Nat := v / 2 ^ lo % 2 ^ (hi + 1 - lo)

/-- The channels of an RGB565 word, expanded by bit replication (R224). -/
def rgb565Channels (w : Nat) : Nat × Nat × Nat :=
  let r5 := bitField w 15 11
  let g6 := bitField w 10 5
  let b5 := bitField w 4 0
  ((r5 <<< 3) ||| (r5 >>> 2), (g6 <<< 2) ||| (g6 >>> 4), (b5 <<< 3) ||| (b5 >>> 2))

/-- `decode(format, …)`: the channels `(R, G, B)` of the pixel at byte offset `off` of the source (R224, R225). -/
def pixelChannels (p : Params) (format : PixelFormat) (src : List Byte) (off : Nat) : Nat × Nat × Nat :=
  let c := fun i => memByte src (off + i)
  match format with
  | .rgb565 => rgb565Channels (rgb565Word p.rgb565ByteSwap (c 0) (c 1))
  | .l8 => ((c 0).toNat, (c 0).toNat, (c 0).toNat)
  | .bgr888 => ((c 2).toNat, (c 1).toNat, (c 0).toNat)
  | .bgra8888 => ((c 2).toNat, (c 1).toNat, (c 0).toNat)

/-- `leadingPad = xStart - alignedXStart` (R221). -/
def leadingPad (xStart : U16) : Nat := xStart.toNat - alignDown8 xStart.toNat

/-- `alignedWidth = roundUp8(width + leadingPad)` (R221). -/
def alignedWidth (xStart width : U16) : Nat := roundUp8 (width.toNat + leadingPad xStart)

/-- `idx(c)`, mirrored or not (R228). -/
def destIndex (p : Params) (xStart width : U16) (c : Nat) : Nat :=
  if p.mirrorX then leadingPad xStart + (width.toNat - 1 - c) else leadingPad xStart + c

/-- `pos = r*alignedWidth + idx(c)` (R228). -/
def destPos (p : Params) (xStart width : U16) (r c : Nat) : Nat :=
  r * alignedWidth xStart width + destIndex p xStart width c

/-- `out[pos div 8] <- out[pos div 8] AND NOT (1 << (7 - (pos mod 8)))` (R220, R228). -/
def clearBit (out : List Byte) (pos : Nat) : List Byte :=
  memModify out (pos / 8) fun b => b &&& ~~~(1#8 <<< (7 - pos % 8))

/-- Whether the source pixel `(r, c)` is ink (R227, R231). -/
def pixelInk (p : Params) (width : U16) (format : PixelFormat) (src : List Byte) (threshold : Byte) (r c : Nat) : Bool :=
  isInk (pixelChannels p format src ((r * width.toNat + c) * bytesPerPixel format)) threshold

/-- One source pixel of the loop of R220. -/
def packPixel (p : Params) (xStart width : U16) (format : PixelFormat) (src : List Byte) (threshold : Byte)
    (out : List Byte) (rc : Nat × Nat) : List Byte :=
  if pixelInk p width format src threshold rc.1 rc.2 then clearBit out (destPos p xStart width rc.1 rc.2) else out

/-- The pixels of the rectangle in the loop's order: rows, then columns (R220, R231). -/
def pixelOrder (width height : U16) : List (Nat × Nat) :=
  (List.range height.toNat).flatMap fun r => (List.range width.toNat).map fun c => (r, c)

/-- The packed bytes (R220, R222, R228, R229): all white, then every ink pixel's bit cleared. -/
def packBytes (p : Params) (xStart width height : U16) (format : PixelFormat) (src : List Byte) (threshold : Byte) :
    List Byte :=
  (pixelOrder width height).foldl (packPixel p xStart width format src threshold)
    (List.replicate (alignedWidth xStart width * height.toNat / 8) 0xFF)

/-- The window `pack` returns (R229). -/
def packWindow (xStart yStart width height : U16) : RefreshWindow where
  xStart := alignDown8 xStart.toNat
  yStart := yStart.toNat
  columns := height.toNat
  rows := alignedWidth xStart width

/-- The threshold of a `pack` request, or the default (R6, R71). -/
def packThreshold (p : Params) (threshold : Option Byte) : Byte := threshold.getD p.defaultThreshold

/-- The response of `pack`, a function of its operands and the configuration alone (R220, R223, R230). -/
def packResponse (p : Params) (xStart yStart width height : U16) (format : PixelFormat) (src : BufRef)
    (threshold : Option Byte) : Response :=
  if packArgsOk width height format src then
    ⟨.ok, .packed (packWindow xStart yStart width height)
      (packBytes p xStart width height format (bufBytes src) (packThreshold p threshold))⟩
  else .invalidArgument

/-- `pack(…)`: the packer agent answers in one step, whatever the sequencer is doing, and changes no block state
(R220, R230, R313). -/
def execPack (xStart yStart width height : U16) (format : PixelFormat) (src : BufRef) (threshold : Option Byte)
    (s : State) : Answer :=
  .next (s.respond (packResponse s.params xStart yStart width height format src threshold))

end Sys2Proof.Machine
end

