-- ==== Sys2Proof/Machine/Dispatch.lean ====
section
/-! DEFINITION. The meaning of every instruction, one arm for each row of spec/opcode_table.json. `exec i s` is one step of
instruction `i` (10_state.md R21, 40_bus_primitives.md R109): an operation is accepted at an idle block, afterwards it
performs the script entry the step pointer names; `pack` is answered in one step (46_packer.md R230); a frame performs that
entry where the operation in flight is sending it (47_controller_commands.md R250). -/

namespace Sys2Proof.Machine

def exec (i : Instr) (s : State) : Host.Outcome State Fault Refusal :=
  match i with
  -- host operations, 30_encoding.md R70
  | .init busHost dcLine rstLine busyLine csLine clockHz => Sys2Proof.Machine.execInit busHost dcLine rstLine busyLine csLine clockHz s
  | .deinit => Sys2Proof.Machine.execDeinit s
  | .hardwareInit fastMode => Sys2Proof.Machine.execHardwareInit fastMode s
  | .clear fillByte => Sys2Proof.Machine.execClear fillByte s
  | .loadBaseMap data fastMode => Sys2Proof.Machine.execLoadBaseMap data fastMode s
  | .drawRegion x y packedBits widthBits heightRows deferRefresh => Sys2Proof.Machine.execDrawRegion x y packedBits widthBits heightRows deferRefresh s
  | .triggerRefresh => Sys2Proof.Machine.execTriggerRefresh s
  | .deepSleep => Sys2Proof.Machine.execDeepSleep s
  | .pack xStart yStart width height format src threshold => Sys2Proof.Machine.execPack xStart yStart width height format src threshold s
  -- controller command frames, 30_encoding.md R76
  | .softReset => Sys2Proof.Machine.execSoftReset s
  | .driverOutputControl gate tail => Sys2Proof.Machine.execDriverOutputControl gate tail s
  | .boosterSoftStart literal => Sys2Proof.Machine.execBoosterSoftStart literal s
  | .dataEntryMode literal => Sys2Proof.Machine.execDataEntryMode literal s
  | .ramXWindow xs xe => Sys2Proof.Machine.execRamXWindow xs xe s
  | .ramYWindow ys ye => Sys2Proof.Machine.execRamYWindow ys ye s
  | .ramXCounter xc => Sys2Proof.Machine.execRamXCounter xc s
  | .ramYCounter yc => Sys2Proof.Machine.execRamYCounter yc s
  | .borderSelect literal => Sys2Proof.Machine.execBorderSelect literal s
  | .tempSensorSelect literal => Sys2Proof.Machine.execTempSensorSelect literal s
  | .writeRamOld pixels => Sys2Proof.Machine.execWriteRamOld pixels s
  | .writeRamNew pixels => Sys2Proof.Machine.execWriteRamNew pixels s
  | .writeLut lut => Sys2Proof.Machine.execWriteLut lut s
  | .gateTiming gate => Sys2Proof.Machine.execGateTiming gate s
  | .sourceTiming s0 s1 s2 => Sys2Proof.Machine.execSourceTiming s0 s1 s2 s
  | .vcom level => Sys2Proof.Machine.execVcom level s
  | .displayUpdateControl ctrl => Sys2Proof.Machine.execDisplayUpdateControl ctrl s
  | .masterTrigger => Sys2Proof.Machine.execMasterTrigger s
  | .deepSleepFrame literal => Sys2Proof.Machine.execDeepSleepFrame literal s

end Sys2Proof.Machine
end

