-- ==== Sys2Proof/WellFormed.lean ====
section
/-! DEFINITION. Which instructions are well formed under a configuration. A host request's fields are typed, so every
one is spelled correctly (30_encoding.md R71); a command frame carries exactly the payload its rule gives it
(47_controller_commands.md R250, 30_encoding.md R75). -/

namespace Sys2Proof

open Sys2Proof.Machine

/-- The two waveform tables (R32). -/
def Params.tables (p : Params) : List (List Byte) := [p.wfDefault, p.wfFast]

/-- An X window the block sends (R55, R106): `xs ≤ xe < W`, both edges on 8-pixel boundaries. -/
def xWindowOk (p : Params) (xs xe : U16) : Bool :=
  xs.toNat % 8 = 0 && (xe.toNat + 1) % 8 = 0 && xs.toNat ≤ xe.toNat && xe.toNat < p.w

/-- A Y window the block sends (R106): `ys ≤ ye < H`. -/
def yWindowOk (p : Params) (ys ye : U16) : Bool := ys.toNat ≤ ye.toNat && ye.toNat < p.h

/-- The payload rules of R251–R269; a host operation needs none (R71). -/
def WellFormed (p : Params) : Instr → Bool
  | .init _ _ _ _ _ _ => true
  | .deinit => true
  | .hardwareInit _ => true
  | .clear _ => true
  | .loadBaseMap _ _ => true
  | .drawRegion _ _ _ _ _ _ => true
  | .triggerRefresh => true
  | .deepSleep => true
  | .pack _ _ _ _ _ _ _ => true
  | .softReset => true
  | .driverOutputControl gate tail => gate.toNat = p.h - 1 && tail = p.pDrvOutTail
  | .boosterSoftStart lit => lit = p.pBooster
  | .dataEntryMode lit => lit = p.pDataEntry
  | .ramXWindow xs xe => xWindowOk p xs xe
  | .ramYWindow ys ye => yWindowOk p ys ye
  | .ramXCounter xc => xc.toNat % 8 = 0 && xc.toNat < p.w
  | .ramYCounter yc => yc.toNat < p.h
  | .borderSelect lit => lit = p.pBorder
  | .tempSensorSelect lit => lit = p.pTempSensor
  | .writeRamOld pixels => 0 < pixels.length && pixels.length ≤ p.frameBytes
  | .writeRamNew pixels => pixels.length = p.frameBytes
  | .writeLut lut => p.tables.any fun t => lut = romSlice t p.lutMainOff p.lutMainLen
  | .gateTiming gate => p.tables.any fun t => gate = romByte t p.lutGateOff
  | .sourceTiming s0 s1 s2 => p.tables.any fun t => [s0, s1, s2] = romSlice t p.lutSourceOff 3
  | .vcom level => p.tables.any fun t => level = romByte t p.lutVcomOff
  | .displayUpdateControl ctrl => ctrl = p.cleanStartCtrl || ctrl = p.fullCtrl || ctrl = p.partialCtrl
  | .masterTrigger => true
  | .deepSleepFrame lit => lit = p.pDeepSleep

/-- Whether an instruction is a command frame, an output encoding of the block, and no host operation (R70, R76). -/
def Instr.isFrame : Instr → Bool
  | .init _ _ _ _ _ _ => false
  | .deinit => false
  | .hardwareInit _ => false
  | .clear _ => false
  | .loadBaseMap _ _ => false
  | .drawRegion _ _ _ _ _ _ => false
  | .triggerRefresh => false
  | .deepSleep => false
  | .pack _ _ _ _ _ _ _ => false
  | .softReset => true
  | .driverOutputControl _ _ => true
  | .boosterSoftStart _ => true
  | .dataEntryMode _ => true
  | .ramXWindow _ _ => true
  | .ramYWindow _ _ => true
  | .ramXCounter _ => true
  | .ramYCounter _ => true
  | .borderSelect _ => true
  | .tempSensorSelect _ => true
  | .writeRamOld _ => true
  | .writeRamNew _ => true
  | .writeLut _ => true
  | .gateTiming _ => true
  | .sourceTiming _ _ _ => true
  | .vcom _ => true
  | .displayUpdateControl _ => true
  | .masterTrigger => true
  | .deepSleepFrame _ => true

end Sys2Proof
end

