-- ==== Sys2Proof/Decode.lean ====
section
/-! DEFINITION. The decoders of the two formats of spec/opcode_table.json, total on every encoding and rejecting by
name (30_encoding.md R70, R71, R76–R79), and the encoder written from the same tables (R70, R71, R75). The host's requests
go through `decodeHostop` alone (R78); a frame is decoded from a trace (R79). -/

namespace Sys2Proof

open Sys2Proof.Machine

/-- The format a code names (R77), or nothing for 0x04–0xFF (R78). -/
def formatOfCode (code : Byte) : Option PixelFormat :=
  match code.toNat with
  | 0 => some .rgb565
  | 1 => some .l8
  | 2 => some .bgr888
  | 3 => some .bgra8888
  | _ => none

/-- The code of a format (R77). -/
def PixelFormat.code : PixelFormat → Byte
  | .rgb565 => 0x00
  | .l8 => 0x01
  | .bgr888 => 0x02
  | .bgra8888 => 0x03

/-- The `pack` request's fields after its op code; the threshold may be left out for its default (R71). -/
def decodePack : List Arg → Except Refusal Instr
  | [.u16 xs, .u16 ys, .u16 w, .u16 h, .u8 f, .buf src] =>
    match formatOfCode f with
    | some fmt => .ok (.pack xs ys w h fmt src none)
    | none => .error .unknownFormat
  | [.u16 xs, .u16 ys, .u16 w, .u16 h, .u8 f, .buf src, .u8 thr] =>
    match formatOfCode f with
    | some fmt => .ok (.pack xs ys w h fmt src (some thr))
    | none => .error .unknownFormat
  | _ => .error .malformedRequest

/-- A host request (R70, R71): the op code picks the operation, the fields follow in the order of R71. -/
def decodeHostop (op : Byte) (args : List Arg) : Except Refusal Instr :=
  match op.toNat with
  | 0x01 =>
    match args with
    | [.u8 bus, .u8 dc, .u8 rst, .u8 busy, .u8 cs, .u32 hz] => .ok (.init bus dc rst busy cs hz)
    | _ => .error .malformedRequest
  | 0x02 =>
    match args with
    | [] => .ok .deinit
    | _ => .error .malformedRequest
  | 0x03 =>
    match args with
    | [.u1 fast] => .ok (.hardwareInit fast)
    | _ => .error .malformedRequest
  | 0x04 =>
    match args with
    | [.u8 fill] => .ok (.clear fill)
    | _ => .error .malformedRequest
  | 0x05 =>
    match args with
    | [.buf data, .u1 fast] => .ok (.loadBaseMap data fast)
    | _ => .error .malformedRequest
  | 0x06 =>
    match args with
    | [.u16 x, .u16 y, .buf bits, .u16 wb, .u16 hr, .u1 defer] => .ok (.drawRegion x y bits wb hr defer)
    | _ => .error .malformedRequest
  | 0x07 =>
    match args with
    | [] => .ok .triggerRefresh
    | _ => .error .malformedRequest
  | 0x08 =>
    match args with
    | [] => .ok .deepSleep
    | _ => .error .malformedRequest
  | 0x09 => decodePack args
  | _ => .error .unknownOperation

/-- A literal payload: it has its parameter's length (R75, R79). -/
def literalFrame (payload literal : List Byte) (i : Instr) : Except Refusal Instr :=
  if payload.length = literal.length then .ok i else .error .malformedFrame

/-- A command frame (R76): the command-mode byte picks the frame, the data bytes are its payload. The opcode fixes its
length (R75, R79), but for 0x24, whose length is set by the operation that sends it: at least one byte (R261) and at most
`FRAME_BYTES`, since the windows of `drawRegion` lie in the panel (R202). -/
def decodeCmdframe (p : Params) (opcode : Byte) (payload : List Byte) : Except Refusal Instr :=
  match opcode.toNat with
  | 0x12 =>
    match payload with
    | [] => .ok .softReset
    | _ => .error .malformedFrame
  | 0x01 =>
    match payload with
    | lo :: hi :: tail => literalFrame tail p.pDrvOutTail (.driverOutputControl (ofLe16 lo hi) tail)
    | _ => .error .malformedFrame
  | 0x0C => literalFrame payload p.pBooster (.boosterSoftStart payload)
  | 0x11 => literalFrame payload p.pDataEntry (.dataEntryMode payload)
  | 0x44 =>
    match payload with
    | [a, b, c, d] => .ok (.ramXWindow (ofLe16 a b) (ofLe16 c d))
    | _ => .error .malformedFrame
  | 0x45 =>
    match payload with
    | [a, b, c, d] => .ok (.ramYWindow (ofLe16 a b) (ofLe16 c d))
    | _ => .error .malformedFrame
  | 0x4E =>
    match payload with
    | [a, b] => .ok (.ramXCounter (ofLe16 a b))
    | _ => .error .malformedFrame
  | 0x4F =>
    match payload with
    | [a, b] => .ok (.ramYCounter (ofLe16 a b))
    | _ => .error .malformedFrame
  | 0x3C => literalFrame payload p.pBorder (.borderSelect payload)
  | 0x18 => literalFrame payload p.pTempSensor (.tempSensorSelect payload)
  | 0x24 =>
    if 0 < payload.length ∧ payload.length ≤ p.frameBytes then .ok (.writeRamOld payload) else .error .malformedFrame
  | 0x26 => if payload.length = p.frameBytes then .ok (.writeRamNew payload) else .error .malformedFrame
  | 0x32 => if payload.length = 105 then .ok (.writeLut payload) else .error .malformedFrame
  | 0x03 =>
    match payload with
    | [b] => .ok (.gateTiming b)
    | _ => .error .malformedFrame
  | 0x04 =>
    match payload with
    | [a, b, c] => .ok (.sourceTiming a b c)
    | _ => .error .malformedFrame
  | 0x2C =>
    match payload with
    | [b] => .ok (.vcom b)
    | _ => .error .malformedFrame
  | 0x22 =>
    match payload with
    | [b] => .ok (.displayUpdateControl b)
    | _ => .error .malformedFrame
  | 0x20 =>
    match payload with
    | [] => .ok .masterTrigger
    | _ => .error .malformedFrame
  | 0x10 => literalFrame payload p.pDeepSleep (.deepSleepFrame payload)
  | _ => .error .unknownOpcode

/-- The decoder of the block: total, one case for each format (R70, R76). -/
def decode (p : Params) : Encoding → Except Refusal Instr
  | .hostop op args => decodeHostop op args
  | .cmdframe opcode payload => decodeCmdframe p opcode payload

/-- The encoder: op codes and fields of R70 and R71, opcodes and payloads of R75 and R76. -/
def encode : Instr → Encoding
  | .init bus dc rst busy cs hz => .hostop 0x01 [.u8 bus, .u8 dc, .u8 rst, .u8 busy, .u8 cs, .u32 hz]
  | .deinit => .hostop 0x02 []
  | .hardwareInit fast => .hostop 0x03 [.u1 fast]
  | .clear fill => .hostop 0x04 [.u8 fill]
  | .loadBaseMap data fast => .hostop 0x05 [.buf data, .u1 fast]
  | .drawRegion x y bits wb hr defer => .hostop 0x06 [.u16 x, .u16 y, .buf bits, .u16 wb, .u16 hr, .u1 defer]
  | .triggerRefresh => .hostop 0x07 []
  | .deepSleep => .hostop 0x08 []
  | .pack xs ys w h fmt src none => .hostop 0x09 [.u16 xs, .u16 ys, .u16 w, .u16 h, .u8 fmt.code, .buf src]
  | .pack xs ys w h fmt src (some thr) =>
    .hostop 0x09 [.u16 xs, .u16 ys, .u16 w, .u16 h, .u8 fmt.code, .buf src, .u8 thr]
  | .softReset => .cmdframe 0x12 []
  | .driverOutputControl gate tail => .cmdframe 0x01 (le16 gate.toNat ++ tail)
  | .boosterSoftStart lit => .cmdframe 0x0C lit
  | .dataEntryMode lit => .cmdframe 0x11 lit
  | .ramXWindow xs xe => .cmdframe 0x44 (le16 xs.toNat ++ le16 xe.toNat)
  | .ramYWindow ys ye => .cmdframe 0x45 (le16 ys.toNat ++ le16 ye.toNat)
  | .ramXCounter xc => .cmdframe 0x4E (le16 xc.toNat)
  | .ramYCounter yc => .cmdframe 0x4F (le16 yc.toNat)
  | .borderSelect lit => .cmdframe 0x3C lit
  | .tempSensorSelect lit => .cmdframe 0x18 lit
  | .writeRamOld pixels => .cmdframe 0x24 pixels
  | .writeRamNew pixels => .cmdframe 0x26 pixels
  | .writeLut lut => .cmdframe 0x32 lut
  | .gateTiming b => .cmdframe 0x03 [b]
  | .sourceTiming s0 s1 s2 => .cmdframe 0x04 [s0, s1, s2]
  | .vcom b => .cmdframe 0x2C [b]
  | .displayUpdateControl b => .cmdframe 0x22 [b]
  | .masterTrigger => .cmdframe 0x20 []
  | .deepSleepFrame lit => .cmdframe 0x10 lit

/-- The smallest panel, 8 by 1, with empty literals, tables of zeros and zero control bytes: the configuration under
which the table's words are read, so that every operand the table leaves out is zero (log 2). -/
def tableParams : Params :=
  { Params.reference with
    w := 8, h := 1
    wfDefault := List.replicate 112 0, wfFast := List.replicate 112 0
    pDrvOutTail := [], pBooster := [], pDataEntry := [], pBorder := [], pTempSensor := [], pDeepSleep := []
    cleanStartCtrl := 0 }

/-- The fields of a host request with every bit zero (a `BufRef` of zeros is `null`), for the table's words (log 2). -/
def zeroArgs (op : Byte) : List Arg :=
  match op.toNat with
  | 0x01 => [.u8 0, .u8 0, .u8 0, .u8 0, .u8 0, .u32 0]
  | 0x03 => [.u1 false]
  | 0x04 => [.u8 0]
  | 0x05 => [.buf none, .u1 false]
  | 0x06 => [.u16 0, .u16 0, .buf none, .u16 0, .u16 0, .u1 false]
  | 0x09 => [.u16 0, .u16 0, .u16 0, .u16 0, .u8 0, .buf none, .u8 0]
  | _ => []

/-- A frame's payload with every bit zero, of its opcode's length under `tableParams` (R75, log 2). -/
def zeroPayload (opcode : Byte) : List Byte :=
  match opcode.toNat with
  | 0x01 => List.replicate 2 0
  | 0x44 => List.replicate 4 0
  | 0x45 => List.replicate 4 0
  | 0x4E => List.replicate 2 0
  | 0x4F => List.replicate 2 0
  | 0x24 => List.replicate 1 0
  | 0x26 => List.replicate 1 0
  | 0x32 => List.replicate 105 0
  | 0x03 => List.replicate 1 0
  | 0x04 => List.replicate 3 0
  | 0x2C => List.replicate 1 0
  | 0x22 => List.replicate 1 0
  | _ => []

/-- Whether a word of spec/opcode_table.json is a host op code, 0x01 to 0x09. The table's two formats share one byte, so
the frames 0x01, 0x03 and 0x04 have no word of their own (log 2). -/
def isHostopWord (w : Nat) : Bool := 1 ≤ w % 256 && w % 256 ≤ 9

/-- What a word of spec/opcode_table.json stands for, all operands zero: a host request under 0x01–0x09, else a frame
(log 2). -/
def tableEncoding (w : Nat) : Encoding :=
  if isHostopWord w then .hostop (BitVec.ofNat 8 w) (zeroArgs (BitVec.ofNat 8 w))
  else .cmdframe (BitVec.ofNat 8 w) (zeroPayload (BitVec.ofNat 8 w))

/-- What the decoder reads from a word of spec/opcode_table.json with all operands zero; the table gives every row
eight bits. -/
def decodeTableWord (nbits w : Nat) : Option Instr :=
  if nbits = 8 then
    match decode tableParams (tableEncoding w) with
    | .ok i => some i
    | .error _ => none
  else none

end Sys2Proof
end

