-- ==== Sys2Proof/Machine/Fetch.lean ====
section
/-! DEFINITION. Which agent moves next and what it runs (60_exceptions.md R312, R313; 46_packer.md R230), and where a word
of the opcode table is placed. -/

namespace Sys2Proof.Machine

/-- What the next step does. -/
inductive Move where
  /-- The host issues nothing and no operation is in flight: nothing happens. -/
  | rest
  /-- Instruction `i` makes a step from state `s`. -/
  | run (i : Instr) (s : State)
  /-- The step is refused. -/
  | refuse (r : Refusal)
deriving DecidableEq, Repr

/-- The host's next request is issued and decoded: a host operation, never a command frame (R71, R78). -/
def takeRequest (s : State) : Move :=
  match s.requests with
  | [] => .rest
  | q :: later =>
    match decodeHostop q.op q.args with
    | .ok i => .run i { s with requests := later }
    | .error r => .refuse r

/-- Whether the host's next request is for the packer agent, by its op code 0x09 (R70, R313). -/
def packWaits (s : State) : Bool :=
  match s.requests with
  | q :: _ => q.op = 0x09
  | [] => false

/-- What the sequencer runs for the operation `q` in flight: the frame it is sending (R250), or between frames the
operation's own acts. -/
def State.issued (s : State) (q : Instr) : Instr :=
  match s.sending with
  | some (f, _) => f
  | none => q

/-- The next move. An ill-formed configuration is refused before anything else (R7, R305). An idle block takes the
host's next request. While an operation is in flight the sequencer goes on with it, and no second sequencer request is
taken (R312); a `pack` request that waits may be answered first, since the packer is an agent of its own (R230, R313),
and which of the two moves is a free choice (log 8). -/
def nextMove (s : State) : Move :=
  if configOk s.params then
    match s.cur with
    | none => takeRequest s
    | some q =>
      if packWaits s then
        match s.turn with
        | .packer => takeRequest s.takeTurn
        | .sequencer => .run (s.issued q) s.takeTurn
      else .run (s.issued q) s
  else .refuse .illFormedConfig

/-- The state in which the host's next request is the given one and the very next step takes it: the block is idle. -/
def State.withRequest (s : State) (q : HostRequest) : State :=
  { s with requests := q :: s.requests, cur := none, pc := .idle }

/-- The operations whose frames stand for the table's frame words; between them they send all nineteen opcodes (R76). -/
def frameIssuers : List Instr := [.hardwareInit false, .deepSleep, .triggerRefresh, .loadBaseMap (some [0]) false]

/-- The operation among `frameIssuers`, and the position in its script, at which the frame with the given opcode starts
under `tableParams`. -/
def framePlace (opcode : Byte) : Option (Instr × Nat) :=
  frameIssuers.findSome? fun q => (frameStart tableParams opcode (pieces tableParams q)).map fun k => (q, k)

/-- The state in which operation `q`, in flight under `tableParams` on a Ready block, stands at position `k` and the very
next step is the sequencer's (log 2). -/
def State.withOperationAt (s : State) (q : Instr) (k : Nat) : State :=
  { s with
    params := tableParams, drv := .ready, cfg := some ⟨0, 0, 0, 0, 0, 0⟩, busHeld := true
    dcLvl := .driven .high, rstLvl := .driven .high
    cur := some q, pc := .step k, turns := .sequencer :: s.turns }

end Sys2Proof.Machine
end

