-- ==== Sys2Proof/Machine/Step.lean ====
section
/-! DEFINITION. One step of the whole machine: the next move, run by exec (10_state.md R21; 60_exceptions.md R313). -/

namespace Sys2Proof.Machine

/-- One step. With no request and no operation in flight, nothing happens (70_reset_and_hazards.md R341). -/
def step (s : State) : Host.Outcome State Fault Refusal :=
  match nextMove s with
  | .rest => .next s
  | .run i t => exec i t
  | .refuse r => .refused r

/-- `s` with the instruction of a table word placed where the next step takes it: a host operation as the host's next
request, the block idle; a frame as the one the operation in flight is about to send (log 2). A word that is no opcode is
placed as a request, which the decoder refuses. -/
def State.withFetchWord (s : State) (nbits w : Nat) : State :=
  let op : Byte := BitVec.ofNat 8 (w % 2 ^ nbits)
  match if isHostopWord op.toNat then none else framePlace op with
  | some (q, k) => s.withOperationAt q k
  | none => s.withRequest ⟨op, zeroArgs op⟩

end Sys2Proof.Machine
end

