-- ==== Sys2Proof/Machine/Trace.lean ====
section
/-! DEFINITION. Reading command frames back from a trace by the DC level (30_encoding.md R79). -/

namespace Sys2Proof.Machine

/-- A frame read from a trace: the bytes of its command-mode transaction, and its data-mode bytes, concatenated. -/
structure RawFrame where
  command : List Byte
  payload : List Byte
deriving DecidableEq, Repr

/-- The frames of a trace, given the DC level so far and the frame still open. A transaction made with DC at the command
level starts a new frame; the data-mode transactions up to the next command-mode one are its payload (R79).
`ConfigLines` drives DC to 1 (R120). -/
def scanFrames (cmdLevel : Level) : Option Level → Option RawFrame → List Event → List RawFrame
  | _, cur, [] => cur.toList
  | dc, cur, .xfer bytes :: rest =>
    if dc = some cmdLevel then cur.toList ++ scanFrames cmdLevel dc (some ⟨bytes, []⟩) rest
    else scanFrames cmdLevel dc (cur.map fun f => ⟨f.command, f.payload ++ bytes⟩) rest
  | _, cur, .setLine .dc l :: rest => scanFrames cmdLevel (some l) cur rest
  | _, cur, .configLines _ _ _ _ :: rest => scanFrames cmdLevel (some .high) cur rest
  | dc, cur, .setLine .rst _ :: rest => scanFrames cmdLevel dc cur rest
  | dc, cur, .acquireBus _ _ :: rest => scanFrames cmdLevel dc cur rest
  | dc, cur, .releaseBus :: rest => scanFrames cmdLevel dc cur rest
  | dc, cur, .delay _ :: rest => scanFrames cmdLevel dc cur rest
  | dc, cur, .sampleBusy _ :: rest => scanFrames cmdLevel dc cur rest

/-- The frames of a whole trace (R79). -/
def traceFrames (cmdLevel : Level) (tr : List Event) : List RawFrame := scanFrames cmdLevel none none tr

end Sys2Proof.Machine
end

