-- ==== Sys2Proof/Safety.lean ====
section
/-! DEFINITION. The terms in which statements about the block are made: when it is idle, in flight or at the end of a
run; an instruction run for several steps; the port events each operation makes, written from the operation's rule and
the shorthand of 95_test_vectors.md; the draws that lead to them; and the invariants of the block. -/

namespace Sys2Proof.Machine

/-! ## Where the block stands -/

/-- No operation is in flight (R22). -/
def State.Idle (s : State) : Prop := s.cur = none ∧ s.pc = .idle

/-- Request `i` is in flight at `Step(k)` (R21, R22). -/
def State.At (s : State) (i : Instr) (k : Nat) : Prop := s.cur = some i ∧ s.pc = .step k

/-- A run has ended: no further request, nothing in flight (R341). -/
def State.Ended (s : State) : Prop := s.requests = [] ∧ s.cur = none

/-- Whether an instruction is the packer's, and so never held in `S.cur` (R22, R230). -/
def isPack : Instr → Bool
  | .pack _ _ _ _ _ _ _ => true
  | _ => false

/-- Whether an instruction is an operation of the sequencer: no `pack`, and no frame, which is a piece of operations
(R70, R78, R109). -/
def isOperation (i : Instr) : Bool := !isPack i && !i.isFrame

/-- The frame sent where operation `q` stands at position `k` of its script, and how far into it (R250). -/
def frameOf (p : Params) (q : Instr) (k : Nat) : Option (Instr × Nat) := frameAt p (pieces p q) k

/-- Instruction `i` run for `n` of its steps: `exec i` applied `n` times, stopping at a fault or a refusal. -/
def execTimes : Nat → Instr → State → Answer
  | 0, _, s => .next s
  | n + 1, i, s =>
    match exec i s with
    | .next t => execTimes n i t
    | .fault f => .fault f
    | .refused r => .refused r

/-- Running instruction `i` from `s` reaches `t`: some number of its steps, each answering a next state. -/
def Reaches (i : Instr) (s t : State) : Prop := ∃ n, execTimes n i s = .next t

/-! ## Traces and the draws behind them -/

/-- The state after one port event happened (R28, R58): the event is in the trace, a `SetLine` has written its level, and
the draw behind a transaction or a sample is taken. -/
def State.observe (s : State) : Event → State
  | .setLine line level => (s.emit (.setLine line level)).drive line level
  | .xfer bytes => s.takeOutcome.emit (.xfer bytes)
  | .sampleBusy level => s.takeSample.emit (.sampleBusy level)
  | .delay ms => s.emit (.delay ms)
  | .configLines dc rst busy cs => ((s.emit (.configLines dc rst busy cs)).drive .dc .high).drive .rst .high
  | .acquireBus bus hz => s.takeOutcome.emit (.acquireBus bus hz)
  | .releaseBus => s.emit .releaseBus

/-- The state after the events of a trace happened. -/
def State.observeAll (s : State) (tr : List Event) : State := tr.foldl State.observe s

/-- Whether the draws of the environment at `s` are the ones the trace shows, every transaction in it succeeding. -/
def supplies : State → List Event → Bool
  | _, [] => true
  | s, .xfer bytes :: rest => s.outcome = .ok && supplies (s.observe (.xfer bytes)) rest
  | s, .acquireBus bus hz :: rest => s.outcome = .ok && supplies (s.observe (.acquireBus bus hz)) rest
  | s, .sampleBusy level :: rest => s.busyLevel = level && supplies (s.observe (.sampleBusy level)) rest
  | s, .setLine line level :: rest => supplies (s.observe (.setLine line level)) rest
  | s, .delay ms :: rest => supplies (s.observe (.delay ms)) rest
  | s, .configLines dc rst busy cs :: rest => supplies (s.observe (.configLines dc rst busy cs)) rest
  | s, .releaseBus :: rest => supplies (s.observe .releaseBus) rest

/-- The draws of the environment at `s` are the ones the trace `tr` shows, every transaction in it succeeding (R110):
a premise on the state alone. -/
abbrev Supplies (s : State) (tr : List Event) : Prop := supplies s tr = true

/-! ## The events of each operation, in the shorthand of 95_test_vectors.md -/

/-- `C op [p]`: the opcode in command mode, then each chunk in data mode (R102, R103). -/
def frameTrace (p : Params) (op : Byte) (payload : List Byte) : List Event :=
  [.setLine .dc p.dcCmdLevel, .xfer [op]]
    ++ (chunks p.maxTxn payload).flatMap fun c => [.setLine .dc p.dcCmdLevel.other, .xfer c]

/-- A busy wait that reads 1 `n` times, then 0 (R104). -/
def waitTrace (p : Params) : Nat → List Event
  | 0 => [.sampleBusy .low]
  | n + 1 => .sampleBusy .high :: .delay p.busyPollMs :: waitTrace p n

/-- `RP` (R105). -/
def resetPulseTrace (p : Params) : List Event :=
  [.setLine .rst .low, .delay p.resetHoldMs, .setLine .rst .high, .delay p.resetHoldMs]

/-- `SET_WINDOW(xs, xe, ys, ye)` (R106). -/
def windowTrace (p : Params) (xs xe ys ye : Nat) : List Event :=
  frameTrace p 0x44 (le16 xs ++ le16 xe) ++ frameTrace p 0x45 (le16 ys ++ le16 ye)
    ++ frameTrace p 0x4E (le16 xs) ++ frameTrace p 0x4F (le16 ys)

/-- `FW`: X 0 … W-1, Y 0 … H-1 (R107). -/
def fullWindowTrace (p : Params) : List Event := windowTrace p 0 (p.w - 1) 0 (p.h - 1)

/-- `LUT(T)`, its one wait reading 1 `n` times (R180). -/
def lutTrace (p : Params) (t : List Byte) (n : Nat) : List Event :=
  frameTrace p 0x32 (romSlice t p.lutMainOff p.lutMainLen) ++ waitTrace p n
    ++ frameTrace p 0x03 [romByte t p.lutGateOff] ++ frameTrace p 0x04 (romSlice t p.lutSourceOff 3)
    ++ frameTrace p 0x2C [romByte t p.lutVcomOff]

/-- A refresh with table `t` and control byte `ctrl`, its waits reading 1 `n` and `m` times (R181, R182). -/
def triggerTrace (p : Params) (t : List Byte) (ctrl : Byte) (n m : Nat) : List Event :=
  lutTrace p t n ++ frameTrace p 0x22 [ctrl] ++ frameTrace p 0x20 [] ++ waitTrace p m

/-- `FT` (R181). -/
def fullTriggerTrace (p : Params) (n m : Nat) : List Event := triggerTrace p p.wfDefault p.fullCtrl n m

/-- `PT` (R182). -/
def partialTriggerTrace (p : Params) (n m : Nat) : List Event := triggerTrace p p.wfFast p.partialCtrl n m

/-- The events of `hardwareInit`, its three waits reading 1 `n1`, `n2`, `n3` times (R140–R142). -/
def hardwareInitTrace (p : Params) (n1 n2 n3 : Nat) : List Event :=
  resetPulseTrace p ++ waitTrace p n1 ++ frameTrace p 0x12 [] ++ waitTrace p n2
    ++ frameTrace p 0x01 (le16 (p.h - 1) ++ p.pDrvOutTail)
    ++ frameTrace p 0x0C p.pBooster ++ frameTrace p 0x11 p.pDataEntry
    ++ fullWindowTrace p
    ++ frameTrace p 0x3C p.pBorder ++ frameTrace p 0x18 p.pTempSensor
    ++ frameTrace p 0x22 [p.cleanStartCtrl] ++ frameTrace p 0x20 [] ++ waitTrace p n3

/-- The events of `clear` (R160). -/
def clearTrace (p : Params) (fill : Byte) (n m : Nat) : List Event :=
  fullWindowTrace p ++ frameTrace p 0x24 (List.replicate p.frameBytes fill) ++ fullTriggerTrace p n m

/-- The events of `loadBaseMap` of the image `img` (R163, R164). -/
def baseMapTrace (p : Params) (img : List Byte) (fast : Bool) (n m : Nat) : List Event :=
  fullWindowTrace p ++ frameTrace p 0x24 img ++ frameTrace p 0x26 img
    ++ if fast then partialTriggerTrace p n m else fullTriggerTrace p n m

/-- The events of `drawRegion` of the image `img`, its window given by the operands (R200, R203, R206). -/
def drawTrace (p : Params) (x y : Nat) (img : List Byte) (widthBits heightRows : Nat) (defer : Bool) (n m : Nat) :
    List Event :=
  resetPulseTrace p
    ++ windowTrace p (x - x % 8) (x - x % 8 + widthBits - 1) y (y + heightRows - 1)
    ++ frameTrace p 0x24 img
    ++ if defer then [] else partialTriggerTrace p n m

/-- The conditions under which `drawRegion` sends its events: the argument checks of R201 and the window check of R202. -/
def DrawAccepted (p : Params) (x y : U16) (img : List Byte) (widthBits heightRows : U16) : Prop :=
  widthBits.toNat ≠ 0 ∧ heightRows.toNat ≠ 0 ∧ widthBits.toNat % 8 = 0
    ∧ img.length = heightRows.toNat * widthBits.toNat / 8
    ∧ x.toNat - x.toNat % 8 + widthBits.toNat - 1 < p.w ∧ y.toNat + heightRows.toNat - 1 < p.h

/-- `tr` is the trace a successful run of the frame-sending host operation `i` makes, for some number of busy samples
at each of its waits, and `i`'s arguments pass its checks (R126, R140, R160, R163, R184, R200). -/
def OperationTrace (p : Params) (i : Instr) (tr : List Event) : Prop :=
  match i with
  | .hardwareInit _ => ∃ n1 n2 n3, tr = hardwareInitTrace p n1 n2 n3
  | .clear fill => ∃ n m, tr = clearTrace p fill n m
  | .loadBaseMap (some img) fast => img.length = p.frameBytes ∧ ∃ n m, tr = baseMapTrace p img fast n m
  | .drawRegion x y (some img) wb hr defer =>
    DrawAccepted p x y img wb hr ∧ ∃ n m, tr = drawTrace p x.toNat y.toNat img wb.toNat hr.toNat defer n m
  | .triggerRefresh => ∃ n m, tr = partialTriggerTrace p n m
  | .deepSleep => tr = frameTrace p 0x10 p.pDeepSleep
  | _ => False

/-- What it is for frame `i` to complete as `CMD(op, payload)` and then the busy wait `wait`, empty for a frame without one
(R102, R251–R269): wherever the operation in flight is about to send it and the environment's draws are those of its events,
running `i` reaches the state after them, with the operation at its next piece. RST is untouched, and the frame proper takes
no busy sample. -/
def CompletesAsFrame (s : State) (i : Instr) (op : Byte) (payload : List Byte) (wait : List Event) : Prop :=
  ∀ (q : Instr) (before after : List Piece), pieces s.params q = before ++ .frame i :: after →
    s.At q (flatten s.params before).length → Supplies s (frameTrace s.params op payload ++ wait) →
    Reaches i s { s.observeAll (frameTrace s.params op payload ++ wait) with
      pc := .step (flatten s.params (before ++ [.frame i])).length }
    ∧ (s.observeAll (frameTrace s.params op payload ++ wait)).rstLvl = s.rstLvl
    ∧ (s.observeAll (frameTrace s.params op payload)).busyLevels = s.busyLevels

/-- The bit at position `pos` of a packed bitmap: most significant bit first in each byte (R51, R228). -/
def packedBit (out : List Byte) (pos : Nat) : Bool := (memByte out (pos / 8)).getLsbD (7 - pos % 8)

/-! ## Invariants -/

/-- What is known once a script entry has been passed: a check held. -/
def Act.passed (s : State) : Act → Prop
  | .requireReady => s.drv = .ready
  | .requireArg holds => holds = true
  | .requireWindow holds => holds = true
  | _ => True

/-- The state fields agree with one another (R22, R23, R26, R27, R28, R73). -/
structure Consistent (s : State) : Prop where
  /-- `S.cur ≠ none` exactly when `S.pc ≠ Idle` (R22). -/
  curPc : s.cur = none ↔ s.pc = .idle
  /-- Only an operation is held in `S.cur`: the packer never sets it, and no frame is a request (R22, R78). -/
  operation : ∀ i, s.cur = some i → isOperation i = true
  /-- Every check the operation in flight has passed holds: the driver is Ready past REQUIRE_READY, the arguments and the
  window are in range past their checks (R108, R201, R202, R303). -/
  checks : ∀ i k j a, s.At i k → j < k → (script s.params i)[j]? = some a → a.passed s
  /-- `S.busHeld = (S.drv = Ready)` (R27). -/
  held : s.busHeld = true ↔ s.drv = .ready
  /-- The configuration is there exactly while Ready (R26). -/
  configured : s.cfg.isSome = true ↔ s.drv = .ready
  /-- The captured line identifiers are valid (R26, R120). -/
  validLines : ∀ c, s.cfg = some c → initLinesOk s.params c.dcLine c.rstLine c.busyLine c.csLine = true
  /-- Both output lines are driven once Ready (R28). -/
  driven : s.drv = .ready → s.dcLvl ≠ .undriven ∧ s.rstLvl ≠ .undriven
  /-- Both output lines are driven once `init` has configured them (R28, R120). -/
  initDriven : ∀ bus dc rst busy cs hz k, s.At (.init bus dc rst busy cs hz) (k + 3) →
    s.dcLvl ≠ .undriven ∧ s.rstLvl ≠ .undriven
  /-- Every transaction has 1 … `MAX_TXN` bytes (R57, R73). -/
  transactions : ∀ bytes, .xfer bytes ∈ s.trace → 1 ≤ bytes.length ∧ bytes.length ≤ s.params.maxTxn

/-- The nineteen opcodes of R76. -/
def opcodes : List Byte :=
  [0x01, 0x03, 0x04, 0x0C, 0x10, 0x11, 0x12, 0x18, 0x20, 0x22, 0x24, 0x26, 0x2C, 0x32, 0x3C, 0x44, 0x45, 0x4E, 0x4F]

/-- DC is driven before every transaction in the trace, and a command-mode transaction is one byte, an opcode of R76
(R74, R101, R250). -/
def TraceDisciplined (cmdLevel : Level) (tr : List Event) : Prop :=
  ∀ before bytes after, tr = before ++ .xfer bytes :: after →
    ∃ l, before.getLast? = some (.setLine .dc l) ∧ (l = cmdLevel → ∃ op ∈ opcodes, bytes = [op])

/-- The trace is disciplined, and where the running script stands right after a `SetLine(DC, ·)` entry, that event is
the trace's last. -/
structure BusDisciplined (s : State) : Prop where
  trace : TraceDisciplined s.params.dcCmdLevel s.trace
  position : ∀ i k l, s.At i (k + 1) → (script s.params i)[k]? = some (.setLine .dc l) →
    s.trace.getLast? = some (.setLine .dc l)

end Sys2Proof.Machine
end

