-- ==== Sys2Proof/Certificates/Slice0/Obligations.lean ====
section
/-! DEFINITION. The statements about the model, from the numbered rules of spec/. `Reaches i s t` says that `exec i`,
applied some number of times from `s`, answers a next state every time and ends in `t`. `Supplies s tr` says that the
environment's draws at `s` are those the trace `tr` shows, every transaction succeeding. -/

open Sys2Proof Sys2Proof.Machine

/-! ## Encoding -/

/-- Every host operation, with every argument at every value, decodes from its encoding (R70, R71); and whatever request
decodes is a host operation, no command frame, and the encoding of what it decodes to (R78, R81). -/
def Obligations.HostopDecodesFromItsEncoding : Prop :=
  (∀ (p : Params) (i : Instr), i.isFrame = false → decode p (encode i) = .ok i)
  ∧ (∀ (p : Params) (op : Byte) (args : List Arg) (i : Instr), decode p (.hostop op args) = .ok i →
      i.isFrame = false ∧ encode i = .hostop op args)

/-- Every well-formed command frame decodes from its encoding (R75, R76); and whatever frame decodes is one of the
nineteen, and the encoding of what it decodes to. -/
def Obligations.FrameDecodesFromItsEncoding : Prop :=
  (∀ (p : Params) (i : Instr), configOk p = true → i.isFrame = true → WellFormed p i = true →
    decode p (encode i) = .ok i)
  ∧ (∀ (p : Params) (op : Byte) (payload : List Byte) (i : Instr), decode p (.cmdframe op payload) = .ok i →
      op ∈ opcodes ∧ i.isFrame = true ∧ encode i = .cmdframe op payload)

/-- Words written out from the tables of R70, R71, R75, R76 and R77 decode to what they stand for (under a configuration
whose `P_DRV_OUT_TAIL` is empty). -/
def Obligations.SpecWordsDecode : Prop :=
  decode tableParams (.hostop 0x01 [.u8 1, .u8 10, .u8 11, .u8 12, .u8 13, .u32 4000000])
      = .ok (.init 1 10 11 12 13 4000000)
  ∧ decode tableParams (.hostop 0x06 [.u16 13, .u16 5, .buf (some [0xFA, 0xFD]), .u16 8, .u16 2, .u1 true])
      = .ok (.drawRegion 13 5 (some [0xFA, 0xFD]) 8 2 true)
  ∧ decode tableParams (.hostop 0x09 [.u16 13, .u16 5, .u16 3, .u16 2, .u8 0x01, .buf none, .u8 128])
      = .ok (.pack 13 5 3 2 .l8 none (some 128))
  ∧ decode tableParams (.cmdframe 0x44 [0x08, 0x00, 0x0F, 0x00]) = .ok (.ramXWindow 8 15)
  ∧ decode tableParams (.cmdframe 0x01 [0x1F, 0x03]) = .ok (.driverOutputControl 799 [])
  ∧ decode tableParams (.cmdframe 0x22 [0xC7]) = .ok (.displayUpdateControl 0xC7)

/-- Codes outside the maps are refused by name: host op codes outside R70 and `pack` formats outside R77, as R78 says. That
a `pack` may leave out its threshold is the form of log 6. That the frame decoder refuses an opcode outside R76 is the
model's own refusal (log 13): R78 says only that the block never emits one. -/
def Obligations.UnknownCodesAreRefused : Prop :=
  (∀ (p : Params) (op : Byte) (args : List Arg), op.toNat = 0 ∨ 10 ≤ op.toNat →
      decode p (.hostop op args) = .error .unknownOperation)
  ∧ (∀ (p : Params) (xs ys w h : U16) (f : Byte) (src : BufRef) (thr : Byte), 4 ≤ f.toNat →
      decode p (.hostop 0x09 [.u16 xs, .u16 ys, .u16 w, .u16 h, .u8 f, .buf src]) = .error .unknownFormat
      ∧ decode p (.hostop 0x09 [.u16 xs, .u16 ys, .u16 w, .u16 h, .u8 f, .buf src, .u8 thr]) = .error .unknownFormat)
  ∧ (∀ (p : Params) (op : Byte) (payload : List Byte), op ∉ opcodes →
      decode p (.cmdframe op payload) = .error .unknownOpcode)

/-- A frame is read back from the events its own run adds to the trace, by the DC level (R79): one frame, whose opcode and
payload decode to the instruction that was run. The frame is run where the operation in flight is
about to send it, in the form of log 1, the model's choice. -/
def Obligations.FrameIsReadBackFromItsTrace : Prop :=
  ∀ (s : State) (q i : Instr) (before after : List Piece) (op : Byte) (payload : List Byte), configOk s.params = true →
    WellFormed s.params i = true → encode i = .cmdframe op payload →
    pieces s.params q = before ++ .frame i :: after → s.At q (flatten s.params before).length →
    Supplies s (frameTrace s.params op payload) →
    ∃ t tr, Reaches i s t ∧ t.trace = s.trace ++ tr ∧ traceFrames s.params.dcCmdLevel tr = [⟨[op], payload⟩]
      ∧ decode s.params (.cmdframe op payload) = .ok i

/-- Every frame the block emits is one of the nineteen, with the payload its rule gives (R250, R76). Step by step: a step
from a consistent state that adds a transaction sends a part of a well-formed frame of the operation in flight. Run by run:
each operation that sends frames, its draws succeeding, ends with `Ok`, and every frame of the events it added decodes to a
well-formed one. -/
def Obligations.OperationFramesAreWellFormed : Prop :=
  (∀ (s t : State) (bytes : List Byte), Consistent s → step s = .next t → t.trace = s.trace ++ [.xfer bytes] →
    ∃ q k f j, s.At q k ∧ frameOf s.params q k = some (f, j) ∧ f.isFrame = true ∧ WellFormed s.params f = true
      ∧ (frameActs s.params f)[j]? = some (.xfer bytes))
  ∧ (∀ (i : Instr) (s : State) (tr : List Event), configOk s.params = true → s.Idle → s.drv = .ready →
    OperationTrace s.params i tr → Supplies s tr →
    ∃ t, Reaches i s t ∧ t.Idle ∧ t.trace = s.trace ++ tr ∧ t.responses = s.responses ++ [⟨.ok, .none⟩]
      ∧ ∀ f ∈ traceFrames s.params.dcCmdLevel tr, ∃ op j, f.command = [op] ∧ op ∈ opcodes
        ∧ decode s.params (.cmdframe op f.payload) = .ok j ∧ j.isFrame = true ∧ WellFormed s.params j = true)

/-- LE16 and the frames of SET_FULL_WINDOW at the reference geometry, byte for byte (R50, R107). -/
def Obligations.ReferenceFullWindowBytes : Prop :=
  fullWindowTrace Params.reference =
    [.setLine .dc .low, .xfer [0x44], .setLine .dc .high, .xfer [0x00, 0x00, 0xDF, 0x01],
     .setLine .dc .low, .xfer [0x45], .setLine .dc .high, .xfer [0x00, 0x00, 0x1F, 0x03],
     .setLine .dc .low, .xfer [0x4E], .setLine .dc .high, .xfer [0x00, 0x00],
     .setLine .dc .low, .xfer [0x4F], .setLine .dc .high, .xfer [0x00, 0x00]]

/-! ## Steps, requests and agents -/

/-- With nothing in flight, a step runs the host's next request: it is taken from the list, decoded, and the step is
`exec` of it. -/
def Obligations.StepRunsDecodedRequest : Prop :=
  ∀ (s : State) (q : HostRequest) (later : List HostRequest) (i : Instr), configOk s.params = true → s.cur = none →
    s.requests = q :: later → decode s.params (.hostop q.op q.args) = .ok i →
    step s = exec i { s with requests := later }

/-- While a request is in flight and no `pack` request waits, a step is `exec` of the request in flight: no second
request is taken (R109, R312). Where that operation is sending a frame, the step is `exec` of the frame: that a frame is an
instruction too, whose `exec` is the step of the operation sending it, is the model's choice (log 1). -/
def Obligations.StepContinuesRequestInFlight : Prop :=
  ∀ (s : State) (i : Instr), configOk s.params = true → s.cur = some i →
    (∀ args later, s.requests ≠ ⟨0x09, args⟩ :: later) →
    step s = exec i s
    ∧ ∀ k f j, s.pc = .step k → frameOf s.params i k = some (f, j) → step s = exec f s

/-- A `pack` request that waits while a request is in flight is answered by the packer when it is the packer's turn,
and the request in flight stands where it stood; else the sequencer goes on (R230, R313). Whose turn it is is a free
choice of the model (log 8). -/
def Obligations.PackIsServedBesideTheSequencer : Prop :=
  ∀ (s : State) (i : Instr) (args : List Arg) (later : List HostRequest) (xs ys w h : U16) (f : PixelFormat)
    (src : BufRef) (thr : Option Byte), configOk s.params = true → s.cur = some i →
    s.requests = ⟨0x09, args⟩ :: later → decode s.params (.hostop 0x09 args) = .ok (.pack xs ys w h f src thr) →
    (s.turn = .packer →
      step s = .next { s with
        turns := s.turns.tail, turnCount := s.turnCount + 1, requests := later
        responses := s.responses ++ [packResponse s.params xs ys w h f src thr] })
    ∧ (s.turn = .sequencer → step s = exec i { s with turns := s.turns.tail, turnCount := s.turnCount + 1 })

/-- With no request and nothing in flight, a step changes nothing (R341, log 5). -/
def Obligations.EndedRunRests : Prop :=
  ∀ s : State, configOk s.params = true → s.Ended → step s = .next s

/-- The refusals of R305, each kept for the whole run: an unknown operation, an unknown `pack` format (with nothing in
flight, or beside an operation in flight on the packer's turn, which is the model's free choice of log 8), an ill-formed
configuration before any step. No step is made, so nothing is answered. -/
def Obligations.RefusalsEndTheRun : Prop :=
  (∀ (s : State) (op : Byte) (args : List Arg) (later : List HostRequest) (k : Nat), configOk s.params = true →
    s.cur = none → s.requests = ⟨op, args⟩ :: later → op.toNat = 0 ∨ 10 ≤ op.toNat →
    Host.Core.run core (k + 1) s = .refused .unknownOperation)
  ∧ (∀ (s : State) (xs ys w h : U16) (f : Byte) (src : BufRef) (thr : Byte) (later : List HostRequest) (k : Nat),
    configOk s.params = true → s.cur = none ∨ s.turn = .packer →
    s.requests = ⟨0x09, [.u16 xs, .u16 ys, .u16 w, .u16 h, .u8 f, .buf src]⟩ :: later
      ∨ s.requests = ⟨0x09, [.u16 xs, .u16 ys, .u16 w, .u16 h, .u8 f, .buf src, .u8 thr]⟩ :: later →
    4 ≤ f.toNat → Host.Core.run core (k + 1) s = .refused .unknownFormat)
  ∧ (∀ (s : State) (k : Nat), configOk s.params = false → Host.Core.run core (k + 1) s = .refused .illFormedConfig)

/-- Every operation of the sequencer is accepted by an idle block: `S.cur` holds it, `S.pc` is `Step(0)` (R109), nothing
else changes. Named: the host operations 0x01 to 0x08. That acceptance is a step of its own, without an event, is the
model's choice (log 5). -/
def Obligations.IdleBlockAcceptsRequest : Prop :=
  ∀ (i : Instr) (s : State), isOperation i = true → s.Idle →
    exec i s = .next { s with cur := some i, pc := .step 0 }

/-- What has no step: a second operation while one is in flight (R312); and a command frame with nothing in flight, or
where the operation in flight is not sending it, since there is no raw-command operation (R78, R250). That a frame is
an instruction too, and the names of both refusals, are the model's choice (log 1, log 7). -/
def Obligations.SecondRequestHasNoStep : Prop :=
  (∀ (i j : Instr) (s : State) (k : Nat), isOperation i = true → s.At j k → i ≠ j →
    exec i s = .refused .requestInFlight)
  ∧ (∀ (f : Instr) (s : State), f.isFrame = true →
    s.cur = none ∨ s.pc = .idle ∨ (∃ q k, s.At q k ∧ ∀ j, frameOf s.params q k ≠ some (f, j)) →
    exec f s = .refused .frameOutsideOperation)

/-- A step adds at most one port event to the trace and at most one response, and rewrites neither (R21, R60). -/
def Obligations.StepAddsAtMostOneEvent : Prop :=
  ∀ s t : State, step s = .next t →
    (t.trace = s.trace ∨ ∃ e, t.trace = s.trace ++ [e])
    ∧ (t.responses = s.responses ∨ ∃ r, t.responses = s.responses ++ [r])

/-! ## Reset and invariants -/

/-- The state after reset (R40): the values of its table, and a configuration that is well formed. The empty lists of
the model's own fields are its choice (log 16). The driver state as the source names it is Busy exactly while a request is
in flight, and the stored one otherwise (R23), in every state. -/
def Obligations.ResetLeavesTheseValues : Prop :=
  State.reset.drv = .uninitialized ∧ State.reset.cfg = none ∧ State.reset.busHeld = false
  ∧ State.reset.dcLvl = .undriven ∧ State.reset.rstLvl = .undriven ∧ State.reset.Idle
  ∧ State.reset.trace = [] ∧ State.reset.drvView = .uninitialized ∧ State.reset.params = Params.reference
  ∧ configOk Params.reference = true
  ∧ ∀ s : State, (s.drvView = .busy ↔ s.cur ≠ none)
    ∧ (s.cur = none → (s.drvView = .ready ↔ s.drv = .ready) ∧ (s.drvView = .uninitialized ↔ s.drv = .uninitialized))

/-- After reset the state is consistent. -/
def Obligations.ResetIsConsistent : Prop := Consistent State.reset

/-- Every step keeps the state consistent (R22, R23, R26, R27, R28, R57, R73, R78, R108), from every consistent state. -/
def Obligations.StepKeepsConsistent : Prop :=
  ∀ s t : State, Consistent s → step s = .next t → Consistent t

/-- After reset the bus is disciplined. -/
def Obligations.ResetIsBusDisciplined : Prop := BusDisciplined State.reset

/-- Every step keeps it so that DC is driven before every transaction and that every command-mode transaction is one of
the nineteen opcodes (R74, R101, R250). -/
def Obligations.StepKeepsBusDisciplined : Prop :=
  ∀ s t : State, BusDisciplined s → step s = .next t → BusDisciplined t

/-- The only writes to `S.drv` (R24): Uninitialized to Ready when `init` acquires the bus, Ready to Uninitialized by
`deinit`; and a step that ends an operation with an error writes none. -/
def Obligations.DriverStateIsWrittenOnlyByInitAndDeinit : Prop :=
  ∀ s t : State, step s = .next t →
    (t.drv = s.drv
      ∨ (s.drv = .uninitialized ∧ t.drv = .ready ∧ s.outcome = .ok
          ∧ ∃ bus dc rst busy cs hz, s.cur = some (.init bus dc rst busy cs hz))
      ∨ (s.drv = .ready ∧ t.drv = .uninitialized ∧ s.cur = some .deinit))
    ∧ (∀ r, t.responses = s.responses ++ [r] → r.result ≠ .ok → t.drv = s.drv)

/-- Bus ownership (R27): its agreement with Ready is kept; when the bus is not held, a step makes it held exactly when
it is the successful `AcquireBus` of an `init`; when it is held, a step lets it go exactly when it is the `ReleaseBus` of
a `deinit`. -/
def Obligations.BusIsHeldFromAcquireToRelease : Prop :=
  ∀ s t : State, step s = .next t →
    ((s.busHeld = true ↔ s.drv = .ready) → (t.busHeld = true ↔ t.drv = .ready))
    ∧ (s.busHeld = false → (t.busHeld = true ↔
        s.outcome = .ok ∧ (∃ bus dc rst busy cs hz, s.cur = some (.init bus dc rst busy cs hz))
          ∧ ∃ bus hz, t.trace = s.trace ++ [.acquireBus bus hz]))
    ∧ (s.busHeld = true → (t.busHeld = false ↔ s.cur = some .deinit ∧ t.trace = s.trace ++ [.releaseBus]))

/-- No step writes the configuration: geometry, waveform tables, literals (R31, R32, R35, R63). -/
def Obligations.ConfigurationIsNeverWritten : Prop :=
  ∀ s t : State, step s = .next t → t.params = s.params

/-- The captured PanelConfig is written only by `init` and cleared only by `deinit` (R26). -/
def Obligations.PanelConfigIsWrittenOnlyByInitAndDeinit : Prop :=
  ∀ s t : State, step s = .next t →
    t.cfg = s.cfg
    ∨ (∃ bus dc rst busy cs hz, s.cur = some (.init bus dc rst busy cs hz) ∧ t.cfg = some ⟨bus, dc, rst, busy, cs, hz⟩)
    ∨ (s.cur = some .deinit ∧ t.cfg = none)

/-- Which state an instruction writes when it answers a next state (R39). `clear`, `loadBaseMap`, `triggerRefresh`,
`deepSleep` and the nineteen frames: of the driver's registers only `S.dcLvl`. `hardwareInit` and `drawRegion`: also
`S.rstLvl`. `init`: drv, cfg, busHeld and both levels. `deinit`: drv, cfg, busHeld and no level. `pack`: nothing but
its response. No instruction writes the host's list of requests or the packer's turns. -/
def Obligations.InstructionsWriteOnlyTheseRegisters : Prop :=
  ∀ (i : Instr) (s t : State), exec i s = .next t →
    t.requests = s.requests ∧ t.turns = s.turns ∧ t.turnCount = s.turnCount ∧ t.params = s.params
    ∧ (match i with
      | .init _ _ _ _ _ _ => True
      | .deinit => t.dcLvl = s.dcLvl ∧ t.rstLvl = s.rstLvl ∧ t.outcomes = s.outcomes ∧ t.busyLevels = s.busyLevels
      | .hardwareInit _ => t.drv = s.drv ∧ t.cfg = s.cfg ∧ t.busHeld = s.busHeld
      | .drawRegion _ _ _ _ _ _ => t.drv = s.drv ∧ t.cfg = s.cfg ∧ t.busHeld = s.busHeld
      | .pack _ _ _ _ _ _ _ => ∃ r, t = { s with responses := s.responses ++ [r] }
      | _ => t.drv = s.drv ∧ t.cfg = s.cfg ∧ t.busHeld = s.busHeld ∧ t.rstLvl = s.rstLvl)

/-! ## Errors -/

/-- REQUIRE_READY (R108): from an idle block that is not Ready, each of the six operations ends in `InvalidState` with
nothing emitted; from one that is Ready, the check passes and emits nothing. That the operation then stands at `Step(1)` is
the model's choice: each check is a script entry and a step of its own (log 5), in the terms of R21. -/
def Obligations.OperationsBeforeInitGiveInvalidState : Prop :=
  ∀ (i : Instr) (s : State), s.Idle →
    (match i with
      | .hardwareInit _ => True
      | .clear _ => True
      | .loadBaseMap _ _ => True
      | .drawRegion _ _ _ _ _ _ => True
      | .triggerRefresh => True
      | .deepSleep => True
      | _ => False) →
    (s.drv = .uninitialized →
      Reaches i s { s with cur := none, pc := .idle, responses := s.responses ++ [⟨.invalidState, .none⟩] })
    ∧ (s.drv = .ready → Reaches i s { s with cur := some i, pc := .step 1 })

/-- Ending a sequencer operation (R109, R309): a step of the operation in flight, or of a frame it is sending, that sends a
response leaves `S.cur` none and `S.pc` Idle. When the response is an error, no register changes and no busy level is drawn.
A `BusError` has drawn the failing outcome, and the trace holds one event more, the `Xfer` or the `AcquireBus` the operation
stood at; any other error adds no event and draws nothing. -/
def Obligations.ErrorsEndTheOperationPrecisely : Prop :=
  ∀ (i : Instr) (s t : State), isPack i = false → exec i s = .next t → t.responses ≠ s.responses →
    ∃ q k r, s.At q k ∧ (i = q ∨ ∃ j, frameOf s.params q k = some (i, j))
      ∧ t.responses = s.responses ++ [r] ∧ t.cur = none ∧ t.pc = .idle
      ∧ (r.result ≠ .ok → t.drv = s.drv ∧ t.cfg = s.cfg ∧ t.busHeld = s.busHeld ∧ t.dcLvl = s.dcLvl
          ∧ t.rstLvl = s.rstLvl ∧ t.params = s.params ∧ t.busyLevels = s.busyLevels ∧ t.sampleCount = s.sampleCount
          ∧ (r.result = .busError →
              t.outcomes = s.outcomes.tail ∧ t.outcomeCount = s.outcomeCount + 1
              ∧ ∃ c, s.outcome = .fail c ∧ r.info = .cause c
                ∧ ((∃ bytes, (script s.params q)[k]? = some (.xfer bytes) ∧ t.trace = s.trace ++ [.xfer bytes])
                  ∨ ∃ cfg, (script s.params q)[k]? = some (.acquireBus cfg)
                    ∧ t.trace = s.trace ++ [.acquireBus cfg.busHost
                        (if cfg.clockHz = 0 then s.params.defaultClockHz else cfg.clockHz.toNat)]))
          ∧ (r.result ≠ .busError →
              t.trace = s.trace ∧ t.outcomes = s.outcomes ∧ t.outcomeCount = s.outcomeCount ∧ r.info = .none))

/-- Fail-fast (R302), for every host operation that sends frames (the failing `AcquireBus` of `init` has a statement of its
own): when the draws of its trace succeed up to some
transaction and that one fails with cause `c`, the operation ends with `BusError(c)`; the events up to and including
the failing transaction stand, none follows, and drv, cfg and bus ownership are as before. -/
def Obligations.FirstFailingTransactionEndsTheOperation : Prop :=
  ∀ (i : Instr) (s : State) (before after : List Event) (bytes : List Byte) (c : Cause), s.Idle → s.drv = .ready →
    OperationTrace s.params i (before ++ .xfer bytes :: after) → Supplies s before →
    (s.observeAll before).outcome = .fail c →
    ∃ t, Reaches i s t ∧ t.cur = none ∧ t.pc = .idle ∧ t.trace = s.trace ++ before ++ [.xfer bytes]
      ∧ t.responses = s.responses ++ [⟨.busError, .cause c⟩]
      ∧ t.drv = s.drv ∧ t.cfg = s.cfg ∧ t.busHeld = s.busHeld
      ∧ t.dcLvl = (s.observeAll before).dcLvl ∧ t.rstLvl = (s.observeAll before).rstLvl

/-- A busy wait has no failure mode (R104, R306): standing at the sample of a busy wait, with the next `n` samples
reading 1, the operation makes `n` samples and `n` delays and stands at the same sample, with no response. -/
def Obligations.BusyWaitNeverTimesOut : Prop :=
  ∀ (i : Instr) (s : State) (k n : Nat), isOperation i = true → s.At i k →
    (script s.params i)[k]? = some .sampleBusy →
    (script s.params i)[k + 1]? = some (.pollDelay s.params.busyPollMs) →
    Supplies s (List.replicate n [.sampleBusy .high, .delay s.params.busyPollMs]).flatten →
    ∃ t, execTimes (2 * n) i s = .next t ∧ t.At i k ∧ t.responses = s.responses
      ∧ t.trace = s.trace ++ (List.replicate n [Event.sampleBusy .high, .delay s.params.busyPollMs]).flatten

/-! ## Lifecycle -/

/-- `init` from an idle block that is not Ready, with valid lines and the bus acquired (R120, R121). -/
def Obligations.InitSucceeds : Prop :=
  ∀ (s : State) (bus : Byte) (dc rst busy cs : LineId) (hz : U32), s.Idle → s.drv = .uninitialized →
    (∀ l ∈ [dc, rst, busy, cs], l ∈ s.params.validLines) → s.outcome = .ok →
    Reaches (.init bus dc rst busy cs hz) s { s with
      cfg := some ⟨bus, dc, rst, busy, cs, hz⟩, busHeld := true, drv := .ready
      dcLvl := .driven .high, rstLvl := .driven .high
      trace := s.trace ++ [.configLines dc rst busy cs,
        .acquireBus bus (if hz = 0 then s.params.defaultClockHz else hz.toNat)]
      outcomes := s.outcomes.tail, outcomeCount := s.outcomeCount + 1
      responses := s.responses ++ [⟨.ok, .none⟩] }

/-- `init` with a line identifier out of range gives `InvalidArgument`, emits nothing and changes nothing, whether or
not the driver is Ready (R120, R123, R308). -/
def Obligations.InitWithInvalidLineGivesInvalidArgument : Prop :=
  ∀ (s : State) (bus : Byte) (dc rst busy cs : LineId) (hz : U32), s.Idle →
    (∃ l ∈ [dc, rst, busy, cs], l ∉ s.params.validLines) →
    Reaches (.init bus dc rst busy cs hz) s { s with responses := s.responses ++ [⟨.invalidArgument, .none⟩] }

/-- `init` while Ready, with valid lines, gives `InvalidState`, emits nothing and changes nothing (R120, R301). -/
def Obligations.InitWhileReadyGivesInvalidState : Prop :=
  ∀ (s : State) (bus : Byte) (dc rst busy cs : LineId) (hz : U32), s.Idle → s.drv = .ready →
    (∀ l ∈ [dc, rst, busy, cs], l ∈ s.params.validLines) →
    Reaches (.init bus dc rst busy cs hz) s { s with responses := s.responses ++ [⟨.invalidState, .none⟩] }

/-- `init` whose bus acquisition fails (R122): `BusError(c)`, the lines stay configured, nothing is released. -/
def Obligations.InitAcquisitionFailureGivesBusError : Prop :=
  ∀ (s : State) (bus : Byte) (dc rst busy cs : LineId) (hz : U32) (c : Cause), s.Idle → s.drv = .uninitialized →
    (∀ l ∈ [dc, rst, busy, cs], l ∈ s.params.validLines) → s.outcome = .fail c →
    Reaches (.init bus dc rst busy cs hz) s { s with
      dcLvl := .driven .high, rstLvl := .driven .high
      trace := s.trace ++ [.configLines dc rst busy cs,
        .acquireBus bus (if hz = 0 then s.params.defaultClockHz else hz.toNat)]
      outcomes := s.outcomes.tail, outcomeCount := s.outcomeCount + 1
      responses := s.responses ++ [⟨.busError, .cause c⟩] }

/-- `deinit` (R124), host op 0x02: from Ready it releases the bus and keeps the line levels; from Uninitialized it does
nothing and answers `Ok`. -/
def Obligations.DeinitReleasesTheBusAndIsIdempotent : Prop :=
  (∀ p : Params, decode p (.hostop 0x02 []) = .ok .deinit)
  ∧ ∀ s : State, s.Idle →
    (s.drv = .ready → Reaches .deinit s { s with
      busHeld := false, cfg := none, drv := .uninitialized, trace := s.trace ++ [.releaseBus]
      responses := s.responses ++ [⟨.ok, .none⟩] })
    ∧ (s.drv = .uninitialized → Reaches .deinit s { s with responses := s.responses ++ [⟨.ok, .none⟩] })

/-- `deinit` never answers anything but `Ok` (R125): wherever it stands in its script, or at an idle block, it makes a
next state, and a response it sends is `Ok`; before `init` it is a no-op. -/
def Obligations.DeinitNeverFails : Prop :=
  (∀ s : State, (s.pc = .idle ∨ s.cur = some .deinit) →
    ∃ t, exec .deinit s = .next t
      ∧ (t.responses = s.responses ∨ t.responses = s.responses ++ [⟨.ok, .none⟩]))
  ∧ ∀ s : State, s.Idle → s.drv = .uninitialized →
    Reaches .deinit s { s with responses := s.responses ++ [⟨.ok, .none⟩] }

/-- `deepSleep` (R126): one 0x10 frame, no busy wait, no register but `S.dcLvl`. -/
def Obligations.DeepSleepSendsOneFrame : Prop :=
  ∀ s : State, s.Idle → s.drv = .ready → Supplies s (frameTrace s.params 0x10 s.params.pDeepSleep) →
    Reaches .deepSleep s ((s.observeAll (frameTrace s.params 0x10 s.params.pDeepSleep)).finish ⟨.ok, .none⟩)
    ∧ (s.observeAll (frameTrace s.params 0x10 s.params.pDeepSleep)).rstLvl = s.rstLvl
    ∧ (s.observeAll (frameTrace s.params 0x10 s.params.pDeepSleep)).busyLevels = s.busyLevels

/-! ## Bring-up and updates. `n`, `m`, … count the samples of a busy wait that read 1: every count is covered. -/

/-- `hardwareInit` (R140–R142): its events, in order, then `Ok`; RST ends at 1 and DC at the command level. -/
def Obligations.HardwareInitRunsTheBringUpSequence : Prop :=
  ∀ (fast : Bool) (s : State) (n1 n2 n3 : Nat), s.Idle → s.drv = .ready →
    Supplies s (hardwareInitTrace s.params n1 n2 n3) →
    Reaches (.hardwareInit fast) s ((s.observeAll (hardwareInitTrace s.params n1 n2 n3)).finish ⟨.ok, .none⟩)
    ∧ (s.observeAll (hardwareInitTrace s.params n1 n2 n3)).rstLvl = .driven .high
    ∧ (s.observeAll (hardwareInitTrace s.params n1 n2 n3)).dcLvl = .driven s.params.dcCmdLevel

/-- `fastMode` has no effect on `hardwareInit` (R144): after any number of steps the two runs differ in the argument that
`S.cur` holds and in nothing else. -/
def Obligations.FastModeHasNoEffectOnHardwareInit : Prop :=
  ∀ (s t : State) (n : Nat), s.Idle → execTimes n (.hardwareInit false) s = .next t →
    ∃ u, execTimes n (.hardwareInit true) s = .next u ∧ { u with cur := none } = { t with cur := none }

/-- `clear` (R160, R162): the full window, `FRAME_BYTES = W×H/8` (R31) copies of the byte to plane 0x24, a full refresh,
`Ok`. -/
def Obligations.ClearFillsTheFrameAndRefreshes : Prop :=
  ∀ (fill : Byte) (s : State) (n m : Nat), s.Idle → s.drv = .ready → Supplies s (clearTrace s.params fill n m) →
    Reaches (.clear fill) s ((s.observeAll (clearTrace s.params fill n m)).finish ⟨.ok, .none⟩)
    ∧ (s.observeAll (clearTrace s.params fill n m)).rstLvl = s.rstLvl
    ∧ (s.observeAll (clearTrace s.params fill n m)).dcLvl = .driven s.params.dcCmdLevel
    ∧ s.params.frameBytes = s.params.w * s.params.h / 8

/-- The source's scenario for `clear` at the reference geometry and transaction size (R161): after the full window it sends
0x24 and 48000 copies of the byte in 12 chunks, 11 of 4096 bytes and one of 2944, then the full refresh, and ends with
`Ok`. -/
def Obligations.ClearSendsTwelveChunksAtReference : Prop :=
  ∀ (fill : Byte) (s : State) (n m : Nat) (tr : List Event), s.Idle → s.drv = .ready →
    s.params.w = 480 → s.params.h = 800 → s.params.maxTxn = 4096 →
    tr = fullWindowTrace s.params
      ++ [.setLine .dc s.params.dcCmdLevel, .xfer [0x24]]
      ++ (List.replicate 11 [Event.setLine .dc s.params.dcCmdLevel.other, .xfer (List.replicate 4096 fill)]).flatten
      ++ [.setLine .dc s.params.dcCmdLevel.other, .xfer (List.replicate 2944 fill)]
      ++ fullTriggerTrace s.params n m →
    Supplies s tr →
    Reaches (.clear fill) s ((s.observeAll tr).finish ⟨.ok, .none⟩)
    ∧ (s.observeAll tr).trace = s.trace ++ tr ∧ s.params.frameBytes = 11 * 4096 + 2944

/-- `loadBaseMap` of a buffer of `FRAME_BYTES` bytes (R163, R164): the full window, the same bytes to planes 0x24 and
0x26, then the partial or the full refresh by `fastMode`, `Ok`. -/
def Obligations.LoadBaseMapWritesBothPlanes : Prop :=
  ∀ (img : List Byte) (fast : Bool) (s : State) (n m : Nat), s.Idle → s.drv = .ready →
    img.length = s.params.frameBytes → Supplies s (baseMapTrace s.params img fast n m) →
    Reaches (.loadBaseMap (some img) fast) s ((s.observeAll (baseMapTrace s.params img fast n m)).finish ⟨.ok, .none⟩)
    ∧ (s.observeAll (baseMapTrace s.params img fast n m)).rstLvl = s.rstLvl

/-- `loadBaseMap` while Ready of a null buffer or of one with another length gives `InvalidArgument` before any event
(R163, R303). -/
def Obligations.LoadBaseMapChecksItsBuffer : Prop :=
  ∀ (data : BufRef) (fast : Bool) (s : State), s.Idle → s.drv = .ready →
    (∀ img, data = some img → img.length ≠ s.params.frameBytes) →
    Reaches (.loadBaseMap data fast) s { s with responses := s.responses ++ [⟨.invalidArgument, .none⟩] }

/-- `triggerRefresh` (R184): one partial refresh, `Ok`. At the offsets of R32, with tables of 112 bytes `T`, the frames of a
refresh carry `T[0..105)`, `T[105]`, `T[106..109)` and `T[109]` (R180), of `WF_FAST` in the partial refresh (R182) and of
`WF_DEFAULT` in the full one (R181), which other statements name as a part of their operations' events. At any offset, what
is read from a table is that part of it. -/
def Obligations.TriggerRefreshRunsThePartialTrigger : Prop :=
  (∀ (s : State) (n m : Nat), s.Idle → s.drv = .ready → Supplies s (partialTriggerTrace s.params n m) →
    Reaches .triggerRefresh s ((s.observeAll (partialTriggerTrace s.params n m)).finish ⟨.ok, .none⟩)
    ∧ (s.observeAll (partialTriggerTrace s.params n m)).rstLvl = s.rstLvl)
  ∧ (∀ (p : Params) (n m : Nat), p.lutMainOff = 0 → p.lutMainLen = 105 → p.lutGateOff = 105 → p.lutSourceOff = 106 →
    p.lutVcomOff = 109 → p.wfDefault.length = 112 → p.wfFast.length = 112 →
    partialTriggerTrace p n m = frameTrace p 0x32 (p.wfFast.take 105) ++ waitTrace p n
      ++ frameTrace p 0x03 ((p.wfFast.drop 105).take 1) ++ frameTrace p 0x04 ((p.wfFast.drop 106).take 3)
      ++ frameTrace p 0x2C ((p.wfFast.drop 109).take 1)
      ++ frameTrace p 0x22 [p.partialCtrl] ++ frameTrace p 0x20 [] ++ waitTrace p m
    ∧ fullTriggerTrace p n m = frameTrace p 0x32 (p.wfDefault.take 105) ++ waitTrace p n
      ++ frameTrace p 0x03 ((p.wfDefault.drop 105).take 1) ++ frameTrace p 0x04 ((p.wfDefault.drop 106).take 3)
      ++ frameTrace p 0x2C ((p.wfDefault.drop 109).take 1)
      ++ frameTrace p 0x22 [p.fullCtrl] ++ frameTrace p 0x20 [] ++ waitTrace p m)
  ∧ (∀ (t : List Byte) (i : Nat), i < t.length → t[i]? = some (romByte t i))
  ∧ (∀ (t : List Byte) (off n : Nat), off + n ≤ t.length → romSlice t off n = (t.drop off).take n)

/-- The bytes of a waveform table beyond the four fields are never sent (R186): at the offsets of R32, two blocks whose
tables agree on their first 110 bytes and which agree in everything else make the same step, whatever the instruction: the
same events, responses and registers. -/
def Obligations.UnnamedTableBytesAreNeverSent : Prop :=
  ∀ (i : Instr) (s t : State) (d f : List Byte), s.params.lutMainOff = 0 → s.params.lutMainLen = 105 →
    s.params.lutGateOff = 105 → s.params.lutSourceOff = 106 → s.params.lutVcomOff = 109 →
    s.params.wfDefault.length = 112 → d.length = 112 → s.params.wfFast.length = 112 → f.length = 112 →
    d.take 110 = s.params.wfDefault.take 110 → f.take 110 = s.params.wfFast.take 110 →
    exec i s = .next t →
    exec i { s with params := { s.params with wfDefault := d, wfFast := f } }
      = .next { t with params := { s.params with wfDefault := d, wfFast := f } }

/-- `drawRegion` with arguments that pass R201 and R202 (R200, R203–R206): reset pulse, window, the bytes unchanged to
plane 0x24, and the partial refresh unless deferred; `Ok`. -/
def Obligations.DrawRegionWritesItsWindow : Prop :=
  ∀ (x y : U16) (img : List Byte) (wb hr : U16) (defer : Bool) (s : State) (n m : Nat), s.Idle → s.drv = .ready →
    DrawAccepted s.params x y img wb hr →
    Supplies s (drawTrace s.params x.toNat y.toNat img wb.toNat hr.toNat defer n m) →
    Reaches (.drawRegion x y (some img) wb hr defer) s
      ((s.observeAll (drawTrace s.params x.toNat y.toNat img wb.toNat hr.toNat defer n m)).finish ⟨.ok, .none⟩)
    ∧ (s.observeAll (drawTrace s.params x.toNat y.toNat img wb.toNat hr.toNat defer n m)).rstLvl = .driven .high

/-- CHECK_ARGS of `drawRegion` while Ready (R201): a null buffer, a zero dimension, a width that is no multiple of 8, or
a buffer of another length gives `InvalidArgument` before any event. -/
def Obligations.DrawRegionChecksItsArguments : Prop :=
  ∀ (x y : U16) (bits : BufRef) (wb hr : U16) (defer : Bool) (s : State), s.Idle → s.drv = .ready →
    (bits = none ∨ wb.toNat = 0 ∨ hr.toNat = 0 ∨ wb.toNat % 8 ≠ 0
      ∨ ∃ img, bits = some img ∧ img.length ≠ hr.toNat * wb.toNat / 8) →
    Reaches (.drawRegion x y bits wb hr defer) s { s with responses := s.responses ++ [⟨.invalidArgument, .none⟩] }

/-- A `drawRegion` that passes R201 and whose window leaves the panel ends the run in the fault WindowOutOfRange, after
its checks have emitted nothing and answered nothing (R202, R304). -/
def Obligations.WindowOutsideThePanelFaults : Prop :=
  ∀ (x y : U16) (img : List Byte) (wb hr : U16) (defer : Bool) (s : State), s.Idle → s.drv = .ready →
    wb.toNat ≠ 0 → hr.toNat ≠ 0 → wb.toNat % 8 = 0 → img.length = hr.toNat * wb.toNat / 8 →
    (s.params.w ≤ x.toNat - x.toNat % 8 + wb.toNat - 1 ∨ s.params.h ≤ y.toNat + hr.toNat - 1) →
    ∃ t, Reaches (.drawRegion x y (some img) wb hr defer) s t ∧ t.trace = s.trace ∧ t.responses = s.responses
      ∧ exec (.drawRegion x y (some img) wb hr defer) t = .fault .windowOutOfRange

/-- The source's batching scenario (R185), run: two deferred `drawRegion` and one `triggerRefresh`, each with its draws
succeeding, one after the other. The events the three runs add to the trace hold exactly one write-LUT frame and exactly
one master trigger, and those of the two `drawRegion` hold neither. -/
def Obligations.BatchLoadsOneLutAndTriggersOnce : Prop :=
  ∀ (s : State) (x1 y1 w1 h1 x2 y2 w2 h2 : U16) (b1 b2 : BufRef) (tr1 tr2 tr3 : List Event),
    configOk s.params = true → s.Idle → s.drv = .ready →
    OperationTrace s.params (.drawRegion x1 y1 b1 w1 h1 true) tr1 →
    OperationTrace s.params (.drawRegion x2 y2 b2 w2 h2 true) tr2 →
    OperationTrace s.params .triggerRefresh tr3 → Supplies s (tr1 ++ tr2 ++ tr3) →
    ∃ t1 t2 t3 draws refresh, Reaches (.drawRegion x1 y1 b1 w1 h1 true) s t1 ∧ t1.Idle
      ∧ Reaches (.drawRegion x2 y2 b2 w2 h2 true) t1 t2 ∧ t2.Idle ∧ Reaches .triggerRefresh t2 t3 ∧ t3.Idle
      ∧ t3.responses = s.responses ++ [⟨.ok, .none⟩, ⟨.ok, .none⟩, ⟨.ok, .none⟩]
      ∧ t2.trace = s.trace ++ draws ∧ t3.trace = t2.trace ++ refresh
      ∧ (∀ f ∈ traceFrames s.params.dcCmdLevel draws, f.command ≠ [0x32] ∧ f.command ≠ [0x20])
      ∧ ((traceFrames s.params.dcCmdLevel (draws ++ refresh)).filter fun f => f.command = [0x32]).length = 1
      ∧ ((traceFrames s.params.dcCmdLevel (draws ++ refresh)).filter fun f => f.command = [0x20]).length = 1

/-! ## Streams and frames. That a frame is an instruction too, a piece of the operation sending it, is the model's choice
(log 1). -/

/-- STREAM (R103): the chunks are `ceil(n/MAX_TXN)` many, joined they are the payload, all but the last have exactly
`MAX_TXN` bytes, and the last has 1 … `MAX_TXN`. -/
def Obligations.StreamChunksThePayload : Prop :=
  ∀ (m : Nat) (payload : List Byte), 1 ≤ m →
    (chunks m payload).flatten = payload ∧ (chunks m payload).length = (payload.length + m - 1) / m
    ∧ (∀ c ∈ (chunks m payload).dropLast, c.length = m)
    ∧ (∀ c, (chunks m payload).getLast? = some c → 1 ≤ c.length ∧ c.length ≤ m)

/-- SOFT_RESET and MASTER_TRIGGER: one command-mode byte, no payload, and the busy wait after it, for every number of
samples that read 1 (R251, R268, R335). -/
def Obligations.BareFramesComplete : Prop :=
  ∀ (s : State) (n : Nat), CompletesAsFrame s .softReset 0x12 [] (waitTrace s.params n)
    ∧ CompletesAsFrame s .masterTrigger 0x20 [] (waitTrace s.params n)

/-- The frames with coordinates: LE16 values in the order of R75 (R255–R258), and DRIVER_OUTPUT_CONTROL (R252); no wait
after them. -/
def Obligations.CoordinateFramesComplete : Prop :=
  ∀ (s : State) (a b : U16) (tail : List Byte),
    CompletesAsFrame s (.ramXWindow a b) 0x44
      [BitVec.ofNat 8 a.toNat, BitVec.ofNat 8 (a.toNat / 256), BitVec.ofNat 8 b.toNat, BitVec.ofNat 8 (b.toNat / 256)] []
    ∧ CompletesAsFrame s (.ramYWindow a b) 0x45
      [BitVec.ofNat 8 a.toNat, BitVec.ofNat 8 (a.toNat / 256), BitVec.ofNat 8 b.toNat, BitVec.ofNat 8 (b.toNat / 256)] []
    ∧ CompletesAsFrame s (.ramXCounter a) 0x4E [BitVec.ofNat 8 a.toNat, BitVec.ofNat 8 (a.toNat / 256)] []
    ∧ CompletesAsFrame s (.ramYCounter a) 0x4F [BitVec.ofNat 8 a.toNat, BitVec.ofNat 8 (a.toNat / 256)] []
    ∧ CompletesAsFrame s (.driverOutputControl a tail) 0x01
      (BitVec.ofNat 8 a.toNat :: BitVec.ofNat 8 (a.toNat / 256) :: tail) []

/-- The frames with a literal payload: booster, data entry, border, temperature sensor, deep sleep (R253, R254, R259,
R260, R269); no wait after them. -/
def Obligations.LiteralFramesComplete : Prop :=
  ∀ (s : State) (lit : List Byte),
    CompletesAsFrame s (.boosterSoftStart lit) 0x0C lit [] ∧ CompletesAsFrame s (.dataEntryMode lit) 0x11 lit []
    ∧ CompletesAsFrame s (.borderSelect lit) 0x3C lit [] ∧ CompletesAsFrame s (.tempSensorSelect lit) 0x18 lit []
    ∧ CompletesAsFrame s (.deepSleepFrame lit) 0x10 lit []

/-- The frames with pixels, waveform bytes or a control byte: both planes, the LUT with the busy wait after it, its three
trailing frames and display update control without one (R261–R267). -/
def Obligations.DataFramesComplete : Prop :=
  ∀ (s : State) (bytes : List Byte) (a b c : Byte) (n : Nat),
    CompletesAsFrame s (.writeRamOld bytes) 0x24 bytes [] ∧ CompletesAsFrame s (.writeRamNew bytes) 0x26 bytes []
    ∧ CompletesAsFrame s (.writeLut bytes) 0x32 bytes (waitTrace s.params n)
    ∧ CompletesAsFrame s (.gateTiming a) 0x03 [a] []
    ∧ CompletesAsFrame s (.sourceTiming a b c) 0x04 [a, b, c] [] ∧ CompletesAsFrame s (.vcom a) 0x2C [a] []
    ∧ CompletesAsFrame s (.displayUpdateControl a) 0x22 [a] []

/-! ## The packer -/

/-- `pack` with arguments that pass R223 answers in one step, from any state (R220, R221, R229): `Ok` with the window
`{alignedXStart, yStart, height, alignedWidth}` and the bytes of `packBytes`, whose bits PackedBitsAreTheClassifiedPixels
states, at the threshold given or else the default (R71); they are `alignedWidth × height / 8` many, and nothing else
changes. -/
def Obligations.PackAnswersWithWindowAndBytes : Prop :=
  ∀ (xs ys w h : U16) (f : PixelFormat) (src : List Byte) (thr : Option Byte) (s : State),
    w.toNat ≠ 0 → h.toNat ≠ 0 → w.toNat * h.toNat * bytesPerPixel f ≤ src.length →
    exec (.pack xs ys w h f (some src) thr) s = .next { s with
        responses := s.responses ++ [⟨.ok, .packed
          ⟨xs.toNat - xs.toNat % 8, ys.toNat, h.toNat, (w.toNat + xs.toNat % 8 + 7) / 8 * 8⟩
          (packBytes s.params xs w h f src (match thr with | some v => v | none => s.params.defaultThreshold))⟩] }
    ∧ (packBytes s.params xs w h f src (match thr with | some v => v | none => s.params.defaultThreshold)).length
      = (w.toNat + xs.toNat % 8 + 7) / 8 * 8 * h.toNat / 8

/-- The bits of a packed bitmap (R51, R222, R227, R228). For every row: the bit of column `c` stands at in-row index
`leadingPad + (width-1-c)`, or `leadingPad + c` when not mirrored, and is 0 exactly when the pixel's luminance is below
threshold×100; and every bit that no source pixel covers is 1. -/
def Obligations.PackedBitsAreTheClassifiedPixels : Prop :=
  ∀ (p : Params) (xs w h : U16) (f : PixelFormat) (src : List Byte) (thr : Byte) (r : Nat), r < h.toNat →
    (∀ c, c < w.toNat →
      packedBit (packBytes p xs w h f src thr)
        (r * ((w.toNat + xs.toNat % 8 + 7) / 8 * 8) + xs.toNat % 8 + (if p.mirrorX then w.toNat - 1 - c else c))
      = !decide (
          30 * (pixelChannels p f src ((r * w.toNat + c) * bytesPerPixel f)).1
          + 59 * (pixelChannels p f src ((r * w.toNat + c) * bytesPerPixel f)).2.1
          + 11 * (pixelChannels p f src ((r * w.toNat + c) * bytesPerPixel f)).2.2 < thr.toNat * 100))
    ∧ (∀ idx, idx < (w.toNat + xs.toNat % 8 + 7) / 8 * 8 → idx < xs.toNat % 8 ∨ xs.toNat % 8 + w.toNat ≤ idx →
      packedBit (packBytes p xs w h f src thr) (r * ((w.toNat + xs.toNat % 8 + 7) / 8 * 8) + idx) = true)

/-- The alignment step of R221: its formulas (`roundUp8` is the least multiple of 8 not below its argument) and its
bounds. -/
def Obligations.PackAlignmentLaw : Prop :=
  ∀ xs w : U16, alignDown8 xs.toNat = xs.toNat - xs.toNat % 8 ∧ alignedWidth xs w = roundUp8 (w.toNat + leadingPad xs)
    ∧ alignDown8 xs.toNat ≤ xs.toNat ∧ alignDown8 xs.toNat % 8 = 0 ∧ xs.toNat - alignDown8 xs.toNat < 8
    ∧ leadingPad xs = xs.toNat - alignDown8 xs.toNat ∧ leadingPad xs < 8 ∧ w.toNat ≤ alignedWidth xs w ∧ alignedWidth xs w % 8 = 0
    ∧ w.toNat + leadingPad xs ≤ alignedWidth xs w ∧ alignedWidth xs w - w.toNat - leadingPad xs ≤ 7

/-- The argument errors of `pack` (R223), from any state, initialised or not: `InvalidArgument` and nothing else. -/
def Obligations.PackChecksItsArguments : Prop :=
  ∀ (xs ys w h : U16) (f : PixelFormat) (src : BufRef) (thr : Option Byte) (s : State),
    (w.toNat = 0 ∨ h.toNat = 0 ∨ src = none
      ∨ ∃ bytes, src = some bytes ∧ bytes.length < w.toNat * h.toNat * bytesPerPixel f) →
    exec (.pack xs ys w h f src thr) s = .next { s with responses := s.responses ++ [⟨.invalidArgument, .none⟩] }

/-- Purity of `pack` (R230): with the same operands and configuration, two states whatever get the same response, and
each keeps everything else. A source longer than the rectangle gives the same response as its first bytes (R223). -/
def Obligations.PackDependsOnItsOperandsAlone : Prop :=
  ∀ (xs ys w h : U16) (f : PixelFormat) (src extra : List Byte) (thr : Option Byte) (s t : State),
    s.params = t.params → w.toNat * h.toNat * bytesPerPixel f ≤ src.length →
    ∃ r, exec (.pack xs ys w h f (some src) thr) s = .next { s with responses := s.responses ++ [r] }
      ∧ exec (.pack xs ys w h f (some (src ++ extra)) thr) t = .next { t with responses := t.responses ++ [r] }

/-- The luminance of every pixel lies in 0 … 25500 (R226); so at threshold 255 every pixel but pure white is ink, and at
threshold 0 none is (R220). -/
def Obligations.LuminanceRangeAndExtremeThresholds : Prop :=
  ∀ (p : Params) (f : PixelFormat) (src : List Byte) (off : Nat),
    lum100 (pixelChannels p f src off).1 (pixelChannels p f src off).2.1 (pixelChannels p f src off).2.2 ≤ 25500
    ∧ (isInk (pixelChannels p f src off) 255 = true ↔ pixelChannels p f src off ≠ (255, 255, 255))
    ∧ isInk (pixelChannels p f src off) 0 = false

/-- Decoding the pixel at any offset of a source, after `pre.length` bytes whatever (R52, R224, R225, R231), and the bytes
each format takes for one (R77). RGB565: of the two bytes there, read little-endian or swapped as the word `v`, the fields
r5, g6 and b5, each expanded by bit replication, in the places and with the shifts that R224 gives as its own ("from general
knowledge, not in source"); and the three words of R224's example. The byte-per-channel formats: blue first, the fourth byte
without effect. -/
def Obligations.PixelsDecodeToTheirChannels : Prop :=
  (∀ (p : Params) (pre : List Byte) (p0 p1 : Byte) (rest : List Byte) (v : Nat),
    v = (if p.rgb565ByteSwap then p0.toNat * 256 + p1.toNat else p0.toNat + p1.toNat * 256) →
    pixelChannels p .rgb565 (pre ++ p0 :: p1 :: rest) pre.length
      = (v / 2048 * 8 + v / 2048 / 4, v / 32 % 64 * 4 + v / 32 % 64 / 16, v % 32 * 8 + v % 32 / 4))
  ∧ (∀ (p : Params) (pre : List Byte) (p0 p1 : Byte) (rest : List Byte), p.rgb565ByteSwap = false →
    pixelChannels p .rgb565 (pre ++ 0x10 :: 0x84 :: rest) pre.length = (132, 130, 132)
    ∧ pixelChannels p .rgb565 (pre ++ 0x00 :: 0xF8 :: rest) pre.length = (255, 0, 0)
    ∧ pixelChannels p .rgb565 (pre ++ 0xFF :: 0xFF :: rest) pre.length = (255, 255, 255)
    ∧ pixelChannels p .rgb565 (pre ++ p0 :: p1 :: rest) pre.length
        = pixelChannels { p with rgb565ByteSwap := true } .rgb565 (pre ++ p1 :: p0 :: rest) pre.length)
  ∧ (∀ (p : Params) (pre : List Byte) (b g r a : Byte) (rest : List Byte),
    pixelChannels p .l8 (pre ++ b :: rest) pre.length = (b.toNat, b.toNat, b.toNat)
    ∧ pixelChannels p .bgr888 (pre ++ b :: g :: r :: rest) pre.length = (r.toNat, g.toNat, b.toNat)
    ∧ pixelChannels p .bgra8888 (pre ++ b :: g :: r :: a :: rest) pre.length = (r.toNat, g.toNat, b.toNat))
  ∧ (bytesPerPixel .rgb565 = 2 ∧ bytesPerPixel .l8 = 1 ∧ bytesPerPixel .bgr888 = 3 ∧ bytesPerPixel .bgra8888 = 4)
end

