-- ==== Sys2Proof/Laws/State.lean ====
section
/-! SUPPORT. What each named update of the state does to each field, so that no proof unfolds a record update. -/

namespace Sys2Proof.Machine

/-! ### State.emit -/

@[simp] theorem State.emit_params (s : State) (e : Event) : (s.emit e).params = s.params := rfl
@[simp] theorem State.emit_drv (s : State) (e : Event) : (s.emit e).drv = s.drv := rfl
@[simp] theorem State.emit_cfg (s : State) (e : Event) : (s.emit e).cfg = s.cfg := rfl
@[simp] theorem State.emit_busHeld (s : State) (e : Event) : (s.emit e).busHeld = s.busHeld := rfl
@[simp] theorem State.emit_dcLvl (s : State) (e : Event) : (s.emit e).dcLvl = s.dcLvl := rfl
@[simp] theorem State.emit_rstLvl (s : State) (e : Event) : (s.emit e).rstLvl = s.rstLvl := rfl
@[simp] theorem State.emit_cur (s : State) (e : Event) : (s.emit e).cur = s.cur := rfl
@[simp] theorem State.emit_pc (s : State) (e : Event) : (s.emit e).pc = s.pc := rfl
@[simp] theorem State.emit_trace (s : State) (e : Event) : (s.emit e).trace = s.trace ++ [e] := rfl
@[simp] theorem State.emit_responses (s : State) (e : Event) : (s.emit e).responses = s.responses := rfl
@[simp] theorem State.emit_requests (s : State) (e : Event) : (s.emit e).requests = s.requests := rfl
@[simp] theorem State.emit_outcomes (s : State) (e : Event) : (s.emit e).outcomes = s.outcomes := rfl
@[simp] theorem State.emit_outcomeCount (s : State) (e : Event) : (s.emit e).outcomeCount = s.outcomeCount := rfl
@[simp] theorem State.emit_busyLevels (s : State) (e : Event) : (s.emit e).busyLevels = s.busyLevels := rfl
@[simp] theorem State.emit_sampleCount (s : State) (e : Event) : (s.emit e).sampleCount = s.sampleCount := rfl
@[simp] theorem State.emit_turns (s : State) (e : Event) : (s.emit e).turns = s.turns := rfl
@[simp] theorem State.emit_turnCount (s : State) (e : Event) : (s.emit e).turnCount = s.turnCount := rfl

/-! ### State.takeOutcome -/

@[simp] theorem State.takeOutcome_params (s : State) : s.takeOutcome.params = s.params := rfl
@[simp] theorem State.takeOutcome_drv (s : State) : s.takeOutcome.drv = s.drv := rfl
@[simp] theorem State.takeOutcome_cfg (s : State) : s.takeOutcome.cfg = s.cfg := rfl
@[simp] theorem State.takeOutcome_busHeld (s : State) : s.takeOutcome.busHeld = s.busHeld := rfl
@[simp] theorem State.takeOutcome_dcLvl (s : State) : s.takeOutcome.dcLvl = s.dcLvl := rfl
@[simp] theorem State.takeOutcome_rstLvl (s : State) : s.takeOutcome.rstLvl = s.rstLvl := rfl
@[simp] theorem State.takeOutcome_cur (s : State) : s.takeOutcome.cur = s.cur := rfl
@[simp] theorem State.takeOutcome_pc (s : State) : s.takeOutcome.pc = s.pc := rfl
@[simp] theorem State.takeOutcome_trace (s : State) : s.takeOutcome.trace = s.trace := rfl
@[simp] theorem State.takeOutcome_responses (s : State) : s.takeOutcome.responses = s.responses := rfl
@[simp] theorem State.takeOutcome_requests (s : State) : s.takeOutcome.requests = s.requests := rfl
@[simp] theorem State.takeOutcome_outcomes (s : State) : s.takeOutcome.outcomes = s.outcomes.tail := rfl
@[simp] theorem State.takeOutcome_outcomeCount (s : State) : s.takeOutcome.outcomeCount = s.outcomeCount + 1 := rfl
@[simp] theorem State.takeOutcome_busyLevels (s : State) : s.takeOutcome.busyLevels = s.busyLevels := rfl
@[simp] theorem State.takeOutcome_sampleCount (s : State) : s.takeOutcome.sampleCount = s.sampleCount := rfl
@[simp] theorem State.takeOutcome_turns (s : State) : s.takeOutcome.turns = s.turns := rfl
@[simp] theorem State.takeOutcome_turnCount (s : State) : s.takeOutcome.turnCount = s.turnCount := rfl

/-! ### State.takeSample -/

@[simp] theorem State.takeSample_params (s : State) : s.takeSample.params = s.params := rfl
@[simp] theorem State.takeSample_drv (s : State) : s.takeSample.drv = s.drv := rfl
@[simp] theorem State.takeSample_cfg (s : State) : s.takeSample.cfg = s.cfg := rfl
@[simp] theorem State.takeSample_busHeld (s : State) : s.takeSample.busHeld = s.busHeld := rfl
@[simp] theorem State.takeSample_dcLvl (s : State) : s.takeSample.dcLvl = s.dcLvl := rfl
@[simp] theorem State.takeSample_rstLvl (s : State) : s.takeSample.rstLvl = s.rstLvl := rfl
@[simp] theorem State.takeSample_cur (s : State) : s.takeSample.cur = s.cur := rfl
@[simp] theorem State.takeSample_pc (s : State) : s.takeSample.pc = s.pc := rfl
@[simp] theorem State.takeSample_trace (s : State) : s.takeSample.trace = s.trace := rfl
@[simp] theorem State.takeSample_responses (s : State) : s.takeSample.responses = s.responses := rfl
@[simp] theorem State.takeSample_requests (s : State) : s.takeSample.requests = s.requests := rfl
@[simp] theorem State.takeSample_outcomes (s : State) : s.takeSample.outcomes = s.outcomes := rfl
@[simp] theorem State.takeSample_outcomeCount (s : State) : s.takeSample.outcomeCount = s.outcomeCount := rfl
@[simp] theorem State.takeSample_busyLevels (s : State) : s.takeSample.busyLevels = s.busyLevels.tail := rfl
@[simp] theorem State.takeSample_sampleCount (s : State) : s.takeSample.sampleCount = s.sampleCount + 1 := rfl
@[simp] theorem State.takeSample_turns (s : State) : s.takeSample.turns = s.turns := rfl
@[simp] theorem State.takeSample_turnCount (s : State) : s.takeSample.turnCount = s.turnCount := rfl

/-! ### State.takeTurn -/

@[simp] theorem State.takeTurn_params (s : State) : s.takeTurn.params = s.params := rfl
@[simp] theorem State.takeTurn_drv (s : State) : s.takeTurn.drv = s.drv := rfl
@[simp] theorem State.takeTurn_cfg (s : State) : s.takeTurn.cfg = s.cfg := rfl
@[simp] theorem State.takeTurn_busHeld (s : State) : s.takeTurn.busHeld = s.busHeld := rfl
@[simp] theorem State.takeTurn_dcLvl (s : State) : s.takeTurn.dcLvl = s.dcLvl := rfl
@[simp] theorem State.takeTurn_rstLvl (s : State) : s.takeTurn.rstLvl = s.rstLvl := rfl
@[simp] theorem State.takeTurn_cur (s : State) : s.takeTurn.cur = s.cur := rfl
@[simp] theorem State.takeTurn_pc (s : State) : s.takeTurn.pc = s.pc := rfl
@[simp] theorem State.takeTurn_trace (s : State) : s.takeTurn.trace = s.trace := rfl
@[simp] theorem State.takeTurn_responses (s : State) : s.takeTurn.responses = s.responses := rfl
@[simp] theorem State.takeTurn_requests (s : State) : s.takeTurn.requests = s.requests := rfl
@[simp] theorem State.takeTurn_outcomes (s : State) : s.takeTurn.outcomes = s.outcomes := rfl
@[simp] theorem State.takeTurn_outcomeCount (s : State) : s.takeTurn.outcomeCount = s.outcomeCount := rfl
@[simp] theorem State.takeTurn_busyLevels (s : State) : s.takeTurn.busyLevels = s.busyLevels := rfl
@[simp] theorem State.takeTurn_sampleCount (s : State) : s.takeTurn.sampleCount = s.sampleCount := rfl
@[simp] theorem State.takeTurn_turns (s : State) : s.takeTurn.turns = s.turns.tail := rfl
@[simp] theorem State.takeTurn_turnCount (s : State) : s.takeTurn.turnCount = s.turnCount + 1 := rfl

/-! ### State.accept -/

@[simp] theorem State.accept_params (s : State) (q : Instr) : (s.accept q).params = s.params := rfl
@[simp] theorem State.accept_drv (s : State) (q : Instr) : (s.accept q).drv = s.drv := rfl
@[simp] theorem State.accept_cfg (s : State) (q : Instr) : (s.accept q).cfg = s.cfg := rfl
@[simp] theorem State.accept_busHeld (s : State) (q : Instr) : (s.accept q).busHeld = s.busHeld := rfl
@[simp] theorem State.accept_dcLvl (s : State) (q : Instr) : (s.accept q).dcLvl = s.dcLvl := rfl
@[simp] theorem State.accept_rstLvl (s : State) (q : Instr) : (s.accept q).rstLvl = s.rstLvl := rfl
@[simp] theorem State.accept_cur (s : State) (q : Instr) : (s.accept q).cur = some q := rfl
@[simp] theorem State.accept_pc (s : State) (q : Instr) : (s.accept q).pc = .step 0 := rfl
@[simp] theorem State.accept_trace (s : State) (q : Instr) : (s.accept q).trace = s.trace := rfl
@[simp] theorem State.accept_responses (s : State) (q : Instr) : (s.accept q).responses = s.responses := rfl
@[simp] theorem State.accept_requests (s : State) (q : Instr) : (s.accept q).requests = s.requests := rfl
@[simp] theorem State.accept_outcomes (s : State) (q : Instr) : (s.accept q).outcomes = s.outcomes := rfl
@[simp] theorem State.accept_outcomeCount (s : State) (q : Instr) : (s.accept q).outcomeCount = s.outcomeCount := rfl
@[simp] theorem State.accept_busyLevels (s : State) (q : Instr) : (s.accept q).busyLevels = s.busyLevels := rfl
@[simp] theorem State.accept_sampleCount (s : State) (q : Instr) : (s.accept q).sampleCount = s.sampleCount := rfl
@[simp] theorem State.accept_turns (s : State) (q : Instr) : (s.accept q).turns = s.turns := rfl
@[simp] theorem State.accept_turnCount (s : State) (q : Instr) : (s.accept q).turnCount = s.turnCount := rfl

/-! ### State.goto -/

@[simp] theorem State.goto_params (s : State) (k : Nat) : (s.goto k).params = s.params := rfl
@[simp] theorem State.goto_drv (s : State) (k : Nat) : (s.goto k).drv = s.drv := rfl
@[simp] theorem State.goto_cfg (s : State) (k : Nat) : (s.goto k).cfg = s.cfg := rfl
@[simp] theorem State.goto_busHeld (s : State) (k : Nat) : (s.goto k).busHeld = s.busHeld := rfl
@[simp] theorem State.goto_dcLvl (s : State) (k : Nat) : (s.goto k).dcLvl = s.dcLvl := rfl
@[simp] theorem State.goto_rstLvl (s : State) (k : Nat) : (s.goto k).rstLvl = s.rstLvl := rfl
@[simp] theorem State.goto_cur (s : State) (k : Nat) : (s.goto k).cur = s.cur := rfl
@[simp] theorem State.goto_pc (s : State) (k : Nat) : (s.goto k).pc = .step k := rfl
@[simp] theorem State.goto_trace (s : State) (k : Nat) : (s.goto k).trace = s.trace := rfl
@[simp] theorem State.goto_responses (s : State) (k : Nat) : (s.goto k).responses = s.responses := rfl
@[simp] theorem State.goto_requests (s : State) (k : Nat) : (s.goto k).requests = s.requests := rfl
@[simp] theorem State.goto_outcomes (s : State) (k : Nat) : (s.goto k).outcomes = s.outcomes := rfl
@[simp] theorem State.goto_outcomeCount (s : State) (k : Nat) : (s.goto k).outcomeCount = s.outcomeCount := rfl
@[simp] theorem State.goto_busyLevels (s : State) (k : Nat) : (s.goto k).busyLevels = s.busyLevels := rfl
@[simp] theorem State.goto_sampleCount (s : State) (k : Nat) : (s.goto k).sampleCount = s.sampleCount := rfl
@[simp] theorem State.goto_turns (s : State) (k : Nat) : (s.goto k).turns = s.turns := rfl
@[simp] theorem State.goto_turnCount (s : State) (k : Nat) : (s.goto k).turnCount = s.turnCount := rfl

/-! ### State.respond -/

@[simp] theorem State.respond_params (s : State) (r : Response) : (s.respond r).params = s.params := rfl
@[simp] theorem State.respond_drv (s : State) (r : Response) : (s.respond r).drv = s.drv := rfl
@[simp] theorem State.respond_cfg (s : State) (r : Response) : (s.respond r).cfg = s.cfg := rfl
@[simp] theorem State.respond_busHeld (s : State) (r : Response) : (s.respond r).busHeld = s.busHeld := rfl
@[simp] theorem State.respond_dcLvl (s : State) (r : Response) : (s.respond r).dcLvl = s.dcLvl := rfl
@[simp] theorem State.respond_rstLvl (s : State) (r : Response) : (s.respond r).rstLvl = s.rstLvl := rfl
@[simp] theorem State.respond_cur (s : State) (r : Response) : (s.respond r).cur = s.cur := rfl
@[simp] theorem State.respond_pc (s : State) (r : Response) : (s.respond r).pc = s.pc := rfl
@[simp] theorem State.respond_trace (s : State) (r : Response) : (s.respond r).trace = s.trace := rfl
@[simp] theorem State.respond_responses (s : State) (r : Response) : (s.respond r).responses = s.responses ++ [r] := rfl
@[simp] theorem State.respond_requests (s : State) (r : Response) : (s.respond r).requests = s.requests := rfl
@[simp] theorem State.respond_outcomes (s : State) (r : Response) : (s.respond r).outcomes = s.outcomes := rfl
@[simp] theorem State.respond_outcomeCount (s : State) (r : Response) : (s.respond r).outcomeCount = s.outcomeCount := rfl
@[simp] theorem State.respond_busyLevels (s : State) (r : Response) : (s.respond r).busyLevels = s.busyLevels := rfl
@[simp] theorem State.respond_sampleCount (s : State) (r : Response) : (s.respond r).sampleCount = s.sampleCount := rfl
@[simp] theorem State.respond_turns (s : State) (r : Response) : (s.respond r).turns = s.turns := rfl
@[simp] theorem State.respond_turnCount (s : State) (r : Response) : (s.respond r).turnCount = s.turnCount := rfl

/-! ### State.finish -/

@[simp] theorem State.finish_params (s : State) (r : Response) : (s.finish r).params = s.params := rfl
@[simp] theorem State.finish_drv (s : State) (r : Response) : (s.finish r).drv = s.drv := rfl
@[simp] theorem State.finish_cfg (s : State) (r : Response) : (s.finish r).cfg = s.cfg := rfl
@[simp] theorem State.finish_busHeld (s : State) (r : Response) : (s.finish r).busHeld = s.busHeld := rfl
@[simp] theorem State.finish_dcLvl (s : State) (r : Response) : (s.finish r).dcLvl = s.dcLvl := rfl
@[simp] theorem State.finish_rstLvl (s : State) (r : Response) : (s.finish r).rstLvl = s.rstLvl := rfl
@[simp] theorem State.finish_cur (s : State) (r : Response) : (s.finish r).cur = none := rfl
@[simp] theorem State.finish_pc (s : State) (r : Response) : (s.finish r).pc = .idle := rfl
@[simp] theorem State.finish_trace (s : State) (r : Response) : (s.finish r).trace = s.trace := rfl
@[simp] theorem State.finish_responses (s : State) (r : Response) : (s.finish r).responses = s.responses ++ [r] := rfl
@[simp] theorem State.finish_requests (s : State) (r : Response) : (s.finish r).requests = s.requests := rfl
@[simp] theorem State.finish_outcomes (s : State) (r : Response) : (s.finish r).outcomes = s.outcomes := rfl
@[simp] theorem State.finish_outcomeCount (s : State) (r : Response) : (s.finish r).outcomeCount = s.outcomeCount := rfl
@[simp] theorem State.finish_busyLevels (s : State) (r : Response) : (s.finish r).busyLevels = s.busyLevels := rfl
@[simp] theorem State.finish_sampleCount (s : State) (r : Response) : (s.finish r).sampleCount = s.sampleCount := rfl
@[simp] theorem State.finish_turns (s : State) (r : Response) : (s.finish r).turns = s.turns := rfl
@[simp] theorem State.finish_turnCount (s : State) (r : Response) : (s.finish r).turnCount = s.turnCount := rfl

/-! ### State.acquired -/

@[simp] theorem State.acquired_params (s : State) (cfg : PanelConfig) : (s.acquired cfg).params = s.params := rfl
@[simp] theorem State.acquired_drv (s : State) (cfg : PanelConfig) : (s.acquired cfg).drv = .ready := rfl
@[simp] theorem State.acquired_cfg (s : State) (cfg : PanelConfig) : (s.acquired cfg).cfg = some cfg := rfl
@[simp] theorem State.acquired_busHeld (s : State) (cfg : PanelConfig) : (s.acquired cfg).busHeld = true := rfl
@[simp] theorem State.acquired_dcLvl (s : State) (cfg : PanelConfig) : (s.acquired cfg).dcLvl = s.dcLvl := rfl
@[simp] theorem State.acquired_rstLvl (s : State) (cfg : PanelConfig) : (s.acquired cfg).rstLvl = s.rstLvl := rfl
@[simp] theorem State.acquired_cur (s : State) (cfg : PanelConfig) : (s.acquired cfg).cur = s.cur := rfl
@[simp] theorem State.acquired_pc (s : State) (cfg : PanelConfig) : (s.acquired cfg).pc = s.pc := rfl
@[simp] theorem State.acquired_trace (s : State) (cfg : PanelConfig) : (s.acquired cfg).trace = s.trace := rfl
@[simp] theorem State.acquired_responses (s : State) (cfg : PanelConfig) : (s.acquired cfg).responses = s.responses := rfl
@[simp] theorem State.acquired_requests (s : State) (cfg : PanelConfig) : (s.acquired cfg).requests = s.requests := rfl
@[simp] theorem State.acquired_outcomes (s : State) (cfg : PanelConfig) : (s.acquired cfg).outcomes = s.outcomes := rfl
@[simp] theorem State.acquired_outcomeCount (s : State) (cfg : PanelConfig) : (s.acquired cfg).outcomeCount = s.outcomeCount := rfl
@[simp] theorem State.acquired_busyLevels (s : State) (cfg : PanelConfig) : (s.acquired cfg).busyLevels = s.busyLevels := rfl
@[simp] theorem State.acquired_sampleCount (s : State) (cfg : PanelConfig) : (s.acquired cfg).sampleCount = s.sampleCount := rfl
@[simp] theorem State.acquired_turns (s : State) (cfg : PanelConfig) : (s.acquired cfg).turns = s.turns := rfl
@[simp] theorem State.acquired_turnCount (s : State) (cfg : PanelConfig) : (s.acquired cfg).turnCount = s.turnCount := rfl

/-! ### State.released -/

@[simp] theorem State.released_params (s : State) : s.released.params = s.params := rfl
@[simp] theorem State.released_drv (s : State) : s.released.drv = .uninitialized := rfl
@[simp] theorem State.released_cfg (s : State) : s.released.cfg = none := rfl
@[simp] theorem State.released_busHeld (s : State) : s.released.busHeld = false := rfl
@[simp] theorem State.released_dcLvl (s : State) : s.released.dcLvl = s.dcLvl := rfl
@[simp] theorem State.released_rstLvl (s : State) : s.released.rstLvl = s.rstLvl := rfl
@[simp] theorem State.released_cur (s : State) : s.released.cur = s.cur := rfl
@[simp] theorem State.released_pc (s : State) : s.released.pc = s.pc := rfl
@[simp] theorem State.released_trace (s : State) : s.released.trace = s.trace := rfl
@[simp] theorem State.released_responses (s : State) : s.released.responses = s.responses := rfl
@[simp] theorem State.released_requests (s : State) : s.released.requests = s.requests := rfl
@[simp] theorem State.released_outcomes (s : State) : s.released.outcomes = s.outcomes := rfl
@[simp] theorem State.released_outcomeCount (s : State) : s.released.outcomeCount = s.outcomeCount := rfl
@[simp] theorem State.released_busyLevels (s : State) : s.released.busyLevels = s.busyLevels := rfl
@[simp] theorem State.released_sampleCount (s : State) : s.released.sampleCount = s.sampleCount := rfl
@[simp] theorem State.released_turns (s : State) : s.released.turns = s.turns := rfl
@[simp] theorem State.released_turnCount (s : State) : s.released.turnCount = s.turnCount := rfl

/-! ### State.drive -/

@[simp] theorem State.drive_params (s : State) (line : Line) (level : Level) : (s.drive line level).params = s.params := by
  cases line <;> rfl
@[simp] theorem State.drive_drv (s : State) (line : Line) (level : Level) : (s.drive line level).drv = s.drv := by
  cases line <;> rfl
@[simp] theorem State.drive_cfg (s : State) (line : Line) (level : Level) : (s.drive line level).cfg = s.cfg := by
  cases line <;> rfl
@[simp] theorem State.drive_busHeld (s : State) (line : Line) (level : Level) : (s.drive line level).busHeld = s.busHeld := by
  cases line <;> rfl
@[simp] theorem State.drive_dc_dcLvl (s : State) (level : Level) : (s.drive .dc level).dcLvl = .driven level := rfl
@[simp] theorem State.drive_rst_dcLvl (s : State) (level : Level) : (s.drive .rst level).dcLvl = s.dcLvl := rfl
@[simp] theorem State.drive_dc_rstLvl (s : State) (level : Level) : (s.drive .dc level).rstLvl = s.rstLvl := rfl
@[simp] theorem State.drive_rst_rstLvl (s : State) (level : Level) : (s.drive .rst level).rstLvl = .driven level := rfl
@[simp] theorem State.drive_cur (s : State) (line : Line) (level : Level) : (s.drive line level).cur = s.cur := by
  cases line <;> rfl
@[simp] theorem State.drive_pc (s : State) (line : Line) (level : Level) : (s.drive line level).pc = s.pc := by
  cases line <;> rfl
@[simp] theorem State.drive_trace (s : State) (line : Line) (level : Level) : (s.drive line level).trace = s.trace := by
  cases line <;> rfl
@[simp] theorem State.drive_responses (s : State) (line : Line) (level : Level) : (s.drive line level).responses = s.responses := by
  cases line <;> rfl
@[simp] theorem State.drive_requests (s : State) (line : Line) (level : Level) : (s.drive line level).requests = s.requests := by
  cases line <;> rfl
@[simp] theorem State.drive_outcomes (s : State) (line : Line) (level : Level) : (s.drive line level).outcomes = s.outcomes := by
  cases line <;> rfl
@[simp] theorem State.drive_outcomeCount (s : State) (line : Line) (level : Level) : (s.drive line level).outcomeCount = s.outcomeCount := by
  cases line <;> rfl
@[simp] theorem State.drive_busyLevels (s : State) (line : Line) (level : Level) : (s.drive line level).busyLevels = s.busyLevels := by
  cases line <;> rfl
@[simp] theorem State.drive_sampleCount (s : State) (line : Line) (level : Level) : (s.drive line level).sampleCount = s.sampleCount := by
  cases line <;> rfl
@[simp] theorem State.drive_turns (s : State) (line : Line) (level : Level) : (s.drive line level).turns = s.turns := by
  cases line <;> rfl
@[simp] theorem State.drive_turnCount (s : State) (line : Line) (level : Level) : (s.drive line level).turnCount = s.turnCount := by
  cases line <;> rfl

/-! ### State.observe -/

@[simp] theorem State.observe_params (s : State) (e : Event) : (s.observe e).params = s.params := by
  cases e <;> simp [State.observe]
@[simp] theorem State.observe_drv (s : State) (e : Event) : (s.observe e).drv = s.drv := by
  cases e <;> simp [State.observe]
@[simp] theorem State.observe_cfg (s : State) (e : Event) : (s.observe e).cfg = s.cfg := by
  cases e <;> simp [State.observe]
@[simp] theorem State.observe_busHeld (s : State) (e : Event) : (s.observe e).busHeld = s.busHeld := by
  cases e <;> simp [State.observe]
@[simp] theorem State.observe_cur (s : State) (e : Event) : (s.observe e).cur = s.cur := by
  cases e <;> simp [State.observe]
@[simp] theorem State.observe_pc (s : State) (e : Event) : (s.observe e).pc = s.pc := by
  cases e <;> simp [State.observe]
@[simp] theorem State.observe_responses (s : State) (e : Event) : (s.observe e).responses = s.responses := by
  cases e <;> simp [State.observe]
@[simp] theorem State.observe_requests (s : State) (e : Event) : (s.observe e).requests = s.requests := by
  cases e <;> simp [State.observe]
@[simp] theorem State.observe_turns (s : State) (e : Event) : (s.observe e).turns = s.turns := by
  cases e <;> simp [State.observe]
@[simp] theorem State.observe_turnCount (s : State) (e : Event) : (s.observe e).turnCount = s.turnCount := by
  cases e <;> simp [State.observe]
@[simp] theorem State.observe_trace (s : State) (e : Event) : (s.observe e).trace = s.trace ++ [e] := by
  cases e <;> simp [State.observe]

@[simp] theorem State.observeAll_params (s : State) (tr : List Event) : (s.observeAll tr).params = s.params := by
  induction tr generalizing s with
  | nil => rfl
  | cons e rest ih => exact (ih (s.observe e)).trans (State.observe_params s e)
@[simp] theorem State.observeAll_drv (s : State) (tr : List Event) : (s.observeAll tr).drv = s.drv := by
  induction tr generalizing s with
  | nil => rfl
  | cons e rest ih => exact (ih (s.observe e)).trans (State.observe_drv s e)
@[simp] theorem State.observeAll_cfg (s : State) (tr : List Event) : (s.observeAll tr).cfg = s.cfg := by
  induction tr generalizing s with
  | nil => rfl
  | cons e rest ih => exact (ih (s.observe e)).trans (State.observe_cfg s e)
@[simp] theorem State.observeAll_busHeld (s : State) (tr : List Event) : (s.observeAll tr).busHeld = s.busHeld := by
  induction tr generalizing s with
  | nil => rfl
  | cons e rest ih => exact (ih (s.observe e)).trans (State.observe_busHeld s e)
@[simp] theorem State.observeAll_cur (s : State) (tr : List Event) : (s.observeAll tr).cur = s.cur := by
  induction tr generalizing s with
  | nil => rfl
  | cons e rest ih => exact (ih (s.observe e)).trans (State.observe_cur s e)
@[simp] theorem State.observeAll_pc (s : State) (tr : List Event) : (s.observeAll tr).pc = s.pc := by
  induction tr generalizing s with
  | nil => rfl
  | cons e rest ih => exact (ih (s.observe e)).trans (State.observe_pc s e)
@[simp] theorem State.observeAll_responses (s : State) (tr : List Event) : (s.observeAll tr).responses = s.responses := by
  induction tr generalizing s with
  | nil => rfl
  | cons e rest ih => exact (ih (s.observe e)).trans (State.observe_responses s e)
@[simp] theorem State.observeAll_requests (s : State) (tr : List Event) : (s.observeAll tr).requests = s.requests := by
  induction tr generalizing s with
  | nil => rfl
  | cons e rest ih => exact (ih (s.observe e)).trans (State.observe_requests s e)
@[simp] theorem State.observeAll_turns (s : State) (tr : List Event) : (s.observeAll tr).turns = s.turns := by
  induction tr generalizing s with
  | nil => rfl
  | cons e rest ih => exact (ih (s.observe e)).trans (State.observe_turns s e)
@[simp] theorem State.observeAll_turnCount (s : State) (tr : List Event) : (s.observeAll tr).turnCount = s.turnCount := by
  induction tr generalizing s with
  | nil => rfl
  | cons e rest ih => exact (ih (s.observe e)).trans (State.observe_turnCount s e)
@[simp] theorem State.observeAll_nil (s : State) : s.observeAll [] = s := rfl
@[simp] theorem State.observeAll_cons (s : State) (e : Event) (tr : List Event) :
    s.observeAll (e :: tr) = (s.observe e).observeAll tr := rfl
theorem State.observeAll_append (s : State) (a b : List Event) :
    s.observeAll (a ++ b) = (s.observeAll a).observeAll b := List.foldl_append
@[simp] theorem State.observeAll_trace (s : State) (tr : List Event) : (s.observeAll tr).trace = s.trace ++ tr := by
  induction tr generalizing s with
  | nil => simp
  | cons e rest ih => simp [ih]

end Sys2Proof.Machine
end

