-- ==== Sys2Proof/Laws/Pieces.lean ====
section
/-! SUPPORT. What `flatten`, `frameAt` and `runFrame` do, said once: where a frame lies in the flat list of an operation, and
that a frame, issued where the operation in flight is sending it, performs that operation's own script entry. -/

namespace Sys2Proof.Machine

@[simp] theorem flatten_nil (p : Params) : flatten p [] = [] := rfl

@[simp] theorem flatten_cons (p : Params) (x : Piece) (ps : List Piece) :
    flatten p (x :: ps) = pieceActs p x ++ flatten p ps := rfl

@[simp] theorem flatten_append (p : Params) (ps qs : List Piece) :
    flatten p (ps ++ qs) = flatten p ps ++ flatten p qs := by simp [flatten]

@[simp] theorem pieceActs_own (p : Params) (as : List Act) : pieceActs p (.own as) = as := rfl

@[simp] theorem pieceActs_frame (p : Params) (f : Instr) : pieceActs p (.frame f) = frameActs p f := rfl

/-- Past the pieces before it, a frame is found at its own positions. -/
theorem frameAt_frame {p : Params} (before after : List Piece) {f : Instr} {j : Nat}
    (hj : j < (frameActs p f).length) :
    frameAt p (before ++ .frame f :: after) ((flatten p before).length + j) = some (f, j) := by
  induction before with
  | nil => simp [frameAt, hj]
  | cons x rest ih =>
    cases x with
    | own acts =>
      rw [List.cons_append, frameAt, if_neg (by simp; omega), ← ih]
      congr 1
      simp; omega
    | frame g =>
      rw [List.cons_append, frameAt, if_neg (by simp; omega), ← ih]
      congr 1
      simp; omega

/-- A frame found at a position is one of the pieces, and the position lies in it. -/
theorem frameAt_cases {p : Params} {ps : List Piece} {k : Nat} {f : Instr} {j : Nat}
    (h : frameAt p ps k = some (f, j)) :
    ∃ before after, ps = before ++ .frame f :: after ∧ k = (flatten p before).length + j
      ∧ j < (frameActs p f).length := by
  induction ps generalizing k with
  | nil => cases h
  | cons x rest ih =>
    cases x with
    | own acts =>
      rw [frameAt] at h
      split at h
      · cases h
      · obtain ⟨before, after, rfl, hk, hj⟩ := ih h
        exact ⟨.own acts :: before, after, rfl, by simp; omega, hj⟩
    | frame g =>
      rw [frameAt] at h
      split at h
      · cases h
        exact ⟨[], rest, rfl, by simp, by assumption⟩
      · obtain ⟨before, after, rfl, hk, hj⟩ := ih h
        exact ⟨.frame g :: before, after, rfl, by simp; omega, hj⟩

/-- The script's entry inside a frame is that frame's own act. -/
theorem script_frame {p : Params} {q f : Instr} {k j : Nat} (h : frameOf p q k = some (f, j)) :
    (script p q)[k]? = (frameActs p f)[j]? ∧ j < (frameActs p f).length := by
  obtain ⟨before, after, hp, rfl, hj⟩ := frameAt_cases h
  refine ⟨?_, hj⟩
  rw [script, hp, flatten_append, List.getElem?_append_right (by omega), flatten_cons, pieceActs_frame,
    List.getElem?_append_left (by omega)]
  congr 1; omega

/-- What the operation in flight is sending. -/
theorem State.sending_at {s : State} {q : Instr} {k : Nat} (h : s.At q k) : s.sending = frameOf s.params q k := by
  simp [State.sending, frameOf, h.1, h.2]

/-- Where the operation in flight is sending frame `f`, that frame's act is performed (R250). -/
theorem runFrame_at {s : State} {q f : Instr} {k j : Nat} {a : Act} (h : s.At q k)
    (hf : frameOf s.params q k = some (f, j)) (ha : (frameActs s.params f)[j]? = some a) :
    runFrame f (frameActs s.params f) s = perform a k s := by
  simp [runFrame, h.2, State.sending_at h, hf, ha]

/-- A frame that is not being sent has no step (R78, R250). -/
theorem runFrame_outside {s : State} {f : Instr} {acts : List Act} (h : ∀ j, s.sending ≠ some (f, j)) :
    runFrame f acts s = .refused .frameOutsideOperation := by
  unfold runFrame
  split
  · rename_i g j _ hs
    have : g ≠ f := fun e => h j (e ▸ hs)
    simp [this]
  · rfl

/-- A frame that answers a next state performed the act the operation in flight stood at (R250). -/
theorem runFrame_cases {s t : State} {f : Instr} {acts : List Act} (h : runFrame f acts s = .next t) :
    ∃ q k j a, s.At q k ∧ frameOf s.params q k = some (f, j) ∧ acts[j]? = some a ∧ perform a k s = .next t := by
  unfold runFrame at h
  split at h
  · rename_i k g j hp hs
    cases hq : s.cur with
    | none => simp [State.sending, hq] at hs
    | some q =>
      have hat : s.At q k := ⟨hq, hp⟩
      rw [State.sending_at hat] at hs
      by_cases hg : g = f
      · subst hg
        rw [if_pos rfl] at h
        split at h
        · rename_i a ha
          exact ⟨q, k, j, a, hat, hs, ha, h⟩
        · cases h
      · rw [if_neg hg] at h; cases h
  · cases h

end Sys2Proof.Machine
end

