-- ==== Sys2Proof/Laws/Ops.lean ====
section
/-! SUPPORT. What each shared operation can do, said once: taking a draw, one script entry, one step of a script, the
next move. Later proofs cite these and unfold nothing. -/

namespace Sys2Proof.Machine

/-! ## Draws do not depend on what an operation does around them (R110) -/

@[simp] theorem State.outcome_goto (s : State) (k : Nat) : (s.goto k).outcome = s.outcome := rfl
@[simp] theorem State.outcome_accept (s : State) (q : Instr) : (s.accept q).outcome = s.outcome := rfl
@[simp] theorem State.busyLevel_goto (s : State) (k : Nat) : (s.goto k).busyLevel = s.busyLevel := rfl
@[simp] theorem State.busyLevel_accept (s : State) (q : Instr) : (s.accept q).busyLevel = s.busyLevel := rfl
@[simp] theorem State.goto_goto (s : State) (j k : Nat) : (s.goto j).goto k = s.goto k := rfl

theorem State.observe_goto (s : State) (e : Event) (k : Nat) : (s.goto k).observe e = (s.observe e).goto k := by
  cases e with
  | setLine line level => cases line <;> rfl
  | _ => rfl

theorem State.observe_accept (s : State) (e : Event) (q : Instr) : (s.accept q).observe e = (s.observe e).accept q := by
  cases e with
  | setLine line level => cases line <;> rfl
  | _ => rfl

theorem State.observeAll_goto (s : State) (tr : List Event) (k : Nat) :
    (s.goto k).observeAll tr = (s.observeAll tr).goto k := by
  induction tr generalizing s with
  | nil => rfl
  | cons e rest ih => simp [State.observe_goto, ih]

theorem State.observeAll_accept (s : State) (tr : List Event) (q : Instr) :
    (s.accept q).observeAll tr = (s.observeAll tr).accept q := by
  induction tr generalizing s with
  | nil => rfl
  | cons e rest ih => simp [State.observe_accept, ih]

@[simp] theorem State.finish_goto (s : State) (k : Nat) (r : Response) : (s.goto k).finish r = s.finish r := rfl
@[simp] theorem State.finish_accept (s : State) (q : Instr) (r : Response) : (s.accept q).finish r = s.finish r := rfl

/-! ## Supplies -/

@[simp] theorem Supplies_nil (s : State) : Supplies s [] := rfl

/-- The draw that one event of a trace shows at `s`. -/
def DrawShows (s : State) : Event → Prop
  | .xfer _ => s.outcome = .ok
  | .acquireBus _ _ => s.outcome = .ok
  | .sampleBusy level => s.busyLevel = level
  | _ => True

theorem Supplies_cons (s : State) (e : Event) (tr : List Event) :
    Supplies s (e :: tr) ↔ DrawShows s e ∧ Supplies (s.observe e) tr := by
  cases e <;> simp [Supplies, supplies, DrawShows]

theorem Supplies_xfer (s : State) (b : List Byte) (tr : List Event) :
    Supplies s (.xfer b :: tr) ↔ s.outcome = .ok ∧ Supplies (s.observe (.xfer b)) tr := Supplies_cons s _ tr

theorem Supplies_sample (s : State) (l : Level) (tr : List Event) :
    Supplies s (.sampleBusy l :: tr) ↔ s.busyLevel = l ∧ Supplies (s.observe (.sampleBusy l)) tr := Supplies_cons s _ tr

theorem Supplies_append (s : State) (a b : List Event) :
    Supplies s (a ++ b) ↔ Supplies s a ∧ Supplies (s.observeAll a) b := by
  induction a generalizing s with
  | nil => exact ⟨fun h => ⟨rfl, h⟩, fun h => h.2⟩
  | cons e rest ih => rw [List.cons_append, Supplies_cons, Supplies_cons, ih, State.observeAll_cons, and_assoc]

theorem Supplies_goto (s : State) (tr : List Event) (k : Nat) : Supplies (s.goto k) tr ↔ Supplies s tr := by
  induction tr generalizing s with
  | nil => exact Iff.rfl
  | cons e rest ih =>
    have h : DrawShows (s.goto k) e ↔ DrawShows s e := by cases e <;> exact Iff.rfl
    rw [Supplies_cons, Supplies_cons, State.observe_goto, ih, h]

theorem Supplies_accept (s : State) (tr : List Event) (q : Instr) : Supplies (s.accept q) tr ↔ Supplies s tr := by
  induction tr generalizing s with
  | nil => exact Iff.rfl
  | cons e rest ih =>
    have h : DrawShows (s.accept q) e ↔ DrawShows s e := by cases e <;> exact Iff.rfl
    rw [Supplies_cons, Supplies_cons, State.observe_accept, ih, h]

/-! ## One script entry -/

/-- What a script entry can answer (R21, R302, R309): the operation goes on with at most one event more and the pointer
moved; or it ends with one response, at most one event more; or it faults at its window check. -/
theorem perform_cases (a : Act) (k : Nat) (s : State) :
    (∃ (t : State) (j : Nat), perform a k s = .next (t.goto j) ∧ t.cur = s.cur ∧ t.responses = s.responses
        ∧ (t.trace = s.trace ∨ ∃ e, t.trace = s.trace ++ [e]))
    ∨ (∃ (t : State) (r : Response), perform a k s = .next (t.finish r) ∧ t.responses = s.responses
        ∧ (t.trace = s.trace ∨ ∃ e, t.trace = s.trace ++ [e]))
    ∨ (a = .requireWindow false ∧ perform a k s = .fault .windowOutOfRange) := by
  cases a with
  | requireReady =>
    by_cases h : s.drv = .ready
    · exact .inl ⟨s, k + 1, by simp [perform, h], rfl, rfl, .inl rfl⟩
    · exact .inr (.inl ⟨s, .invalidState, by simp [perform, h, raise], rfl, .inl rfl⟩)
  | requireUninitialized =>
    by_cases h : s.drv = .ready
    · exact .inr (.inl ⟨s, .invalidState, by simp [perform, h, raise], rfl, .inl rfl⟩)
    · exact .inl ⟨s, k + 1, by simp [perform, h], rfl, rfl, .inl rfl⟩
  | returnIfUninitialized =>
    by_cases h : s.drv = .uninitialized
    · exact .inr (.inl ⟨s, .ok, by simp [perform, h], rfl, .inl rfl⟩)
    · exact .inl ⟨s, k + 1, by simp [perform, h], rfl, rfl, .inl rfl⟩
  | requireArg holds =>
    cases holds
    · exact .inr (.inl ⟨s, .invalidArgument, by simp [perform, raise], rfl, .inl rfl⟩)
    · exact .inl ⟨s, k + 1, by simp [perform], rfl, rfl, .inl rfl⟩
  | requireWindow holds =>
    cases holds
    · exact .inr (.inr ⟨rfl, by simp [perform]⟩)
    · exact .inl ⟨s, k + 1, by simp [perform], rfl, rfl, .inl rfl⟩
  | configLines dc rst busy cs =>
    exact .inl ⟨((s.emit (.configLines dc rst busy cs)).drive .dc .high).drive .rst .high, k + 1, rfl, by simp, by simp,
      .inr ⟨.configLines dc rst busy cs, by simp⟩⟩
  | acquireBus cfg =>
    cases h : s.outcome with
    | ok =>
      exact .inl ⟨(s.takeOutcome.emit (.acquireBus cfg.busHost (effectiveClock s.params cfg))).acquired cfg, k + 1,
        by simp only [perform, h], by simp, by simp, .inr ⟨.acquireBus cfg.busHost (effectiveClock s.params cfg), by simp⟩⟩
    | fail c =>
      exact .inr (.inl ⟨s.takeOutcome.emit (.acquireBus cfg.busHost (effectiveClock s.params cfg)), .busError c,
        by simp only [perform, h, raise], by simp, .inr ⟨.acquireBus cfg.busHost (effectiveClock s.params cfg), by simp⟩⟩)
  | releaseBus => exact .inl ⟨(s.emit .releaseBus).released, k + 1, rfl, by simp, by simp, .inr ⟨.releaseBus, by simp⟩⟩
  | setLine line level =>
    exact .inl ⟨(s.emit (.setLine line level)).drive line level, k + 1, rfl, by simp, by simp,
      .inr ⟨.setLine line level, by simp⟩⟩
  | xfer bytes =>
    cases h : s.outcome with
    | ok =>
      exact .inl ⟨s.takeOutcome.emit (.xfer bytes), k + 1, by simp only [perform, h], by simp, by simp,
        .inr ⟨.xfer bytes, by simp⟩⟩
    | fail c =>
      exact .inr (.inl ⟨s.takeOutcome.emit (.xfer bytes), .busError c, by simp only [perform, h, raise], by simp,
        .inr ⟨.xfer bytes, by simp⟩⟩)
  | delay ms => exact .inl ⟨s.emit (.delay ms), k + 1, rfl, by simp, by simp, .inr ⟨.delay ms, by simp⟩⟩
  | sampleBusy =>
    cases h : s.busyLevel with
    | low =>
      exact .inl ⟨s.takeSample.emit (.sampleBusy .low), k + 2, by simp only [perform, h], by simp, by simp,
        .inr ⟨.sampleBusy .low, by simp⟩⟩
    | high =>
      exact .inl ⟨s.takeSample.emit (.sampleBusy .high), k + 1, by simp only [perform, h], by simp, by simp,
        .inr ⟨.sampleBusy .high, by simp⟩⟩
  | pollDelay ms => exact .inl ⟨s.emit (.delay ms), k - 1, rfl, by simp, by simp, .inr ⟨.delay ms, by simp⟩⟩

/-! ## One step of a script -/

/-- At an idle block the request is accepted (R109). -/
theorem runScript_idle {q : Instr} {sc : List Act} {s : State} (h : s.pc = .idle) :
    runScript q sc s = .next (s.accept q) := by simp [runScript, h]

/-- In flight, the entry at the step pointer is performed (R21). -/
theorem runScript_entry {q : Instr} {sc : List Act} {s : State} {k : Nat} {a : Act} (h : s.At q k)
    (ha : sc[k]? = some a) : runScript q sc s = perform a k s := by simp [runScript, h.1, h.2, ha]

/-- Past the last entry the operation ends with `Ok` (R109). -/
theorem runScript_end {q : Instr} {sc : List Act} {s : State} {k : Nat} (h : s.At q k) (hk : sc.length ≤ k) :
    runScript q sc s = .next (s.finish .ok) := by
  simp [runScript, h.1, h.2, List.getElem?_eq_none hk]

/-- Another request has no step (R312). -/
theorem runScript_busy {q : Instr} {sc : List Act} {s : State} {k : Nat} (h : s.pc = .step k) (hq : s.cur ≠ some q) :
    runScript q sc s = .refused .requestInFlight := by simp [runScript, h, hq]

/-- Every operation runs its script. -/
theorem exec_script (i : Instr) (s : State) (h : isOperation i = true) : exec i s = runScript i (script s.params i) s := by
  cases i <;> first | rfl | cases h

/-- Every frame runs its acts, where the operation in flight sends them. -/
theorem exec_frame (f : Instr) (s : State) (h : f.isFrame = true) : exec f s = runFrame f (frameActs s.params f) s := by
  cases f <;> first | rfl | cases h

/-- An operation performs the script entry it stands at (R21). -/
theorem exec_entry {i : Instr} {s : State} {k : Nat} {a : Act} (hi : isOperation i = true) (h : s.At i k)
    (ha : (script s.params i)[k]? = some a) : exec i s = perform a k s := by
  rw [exec_script i s hi, runScript_entry h ha]

/-- A host operation has no act as a frame. -/
theorem frameActs_operation {p : Params} {i : Instr} (h : i.isFrame = false) : frameActs p i = [] := by
  cases i <;> first | rfl | cases h

/-- What an operation sends is a frame. -/
theorem frameOf_isFrame {p : Params} {q f : Instr} {k j : Nat} (h : frameOf p q k = some (f, j)) :
    f.isFrame = true := by
  cases hf : f.isFrame with
  | true => rfl
  | false =>
    have := (script_frame h).2
    simp [frameActs_operation hf] at this

/-- `pack` and the frames have no script of their own. -/
theorem pieces_nil {p : Params} {i : Instr} (h : isOperation i = false) : pieces p i = [] := by
  cases i <;> first | rfl | cases h

/-- A frame the operation in flight is sending performs that operation's own entry: the operation's step and the frame's
are the same (R250). -/
theorem exec_sent {q f : Instr} {s : State} {k j : Nat} (h : s.At q k) (hf : frameOf s.params q k = some (f, j)) :
    exec f s = exec q s := by
  obtain ⟨he, hj⟩ := script_frame hf
  have hq : isOperation q = true := by
    cases ho : isOperation q with
    | true => rfl
    | false => simp [frameOf, pieces_nil ho, frameAt] at hf
  have ha : (frameActs s.params f)[j]? = some (frameActs s.params f)[j] := List.getElem?_eq_getElem hj
  rw [exec_frame f s (frameOf_isFrame hf), runFrame_at h hf ha, exec_entry hq h (he.trans ha)]

/-- What the sequencer issues for the operation in flight makes that operation's step. -/
theorem exec_issued {q : Instr} {s : State} (h : s.cur = some q) : exec (s.issued q) s = exec q s := by
  unfold State.issued
  split
  · rename_i f j hs
    cases hp : s.pc with
    | idle => simp [State.sending, hp] at hs
    | step k => exact exec_sent ⟨h, hp⟩ (by rw [← State.sending_at ⟨h, hp⟩, hs])
  · rfl

/-- `pack` is answered in one step and changes nothing but the list of responses (R230). -/
theorem exec_pack (xs ys w h : U16) (f : PixelFormat) (src : BufRef) (thr : Option Byte) (s : State) :
    exec (.pack xs ys w h f src thr) s = .next (s.respond (packResponse s.params xs ys w h f src thr)) := rfl

/-! ## Running for several steps -/

theorem Reaches.refl (i : Instr) (s : State) : Reaches i s s := ⟨0, rfl⟩

theorem execTimes_add {i : Instr} {m n : Nat} {s t : State} (h : execTimes m i s = .next t) :
    execTimes (m + n) i s = execTimes n i t := by
  induction m generalizing s with
  | zero => simp only [execTimes, Host.Outcome.next.injEq] at h; simp [h]
  | succ m ih =>
    rw [Nat.succ_add]
    simp only [execTimes] at h ⊢
    cases hs : exec i s with
    | next u => simp only [hs] at h ⊢; exact ih h
    | fault f => simp [hs] at h
    | refused r => simp [hs] at h

theorem Reaches.trans {i : Instr} {s t u : State} (h : Reaches i s t) (h' : Reaches i t u) : Reaches i s u := by
  obtain ⟨m, hm⟩ := h
  obtain ⟨n, hn⟩ := h'
  exact ⟨m + n, by rw [execTimes_add hm]; exact hn⟩

theorem Reaches.step {i : Instr} {s t : State} (h : exec i s = .next t) : Reaches i s t :=
  ⟨1, by simp [execTimes, h]⟩

theorem Reaches.accept {i : Instr} {s : State} (hi : isOperation i = true) (h : s.Idle) : Reaches i s (s.accept i) :=
  .step (by rw [exec_script i s hi, runScript_idle h.2])

theorem Reaches.finish {i : Instr} {s : State} {k : Nat} (hi : isOperation i = true) (h : s.At i k)
    (hk : (script s.params i).length ≤ k) : Reaches i s (s.finish .ok) :=
  .step (by rw [exec_script i s hi, runScript_end h hk])

/-- Instruction `i` performs the entries of operation `q` at the positions from `lo` to below `hi`: `q` itself does so
everywhere, a frame of `q` at its own positions. -/
def Drives (p : Params) (i q : Instr) (lo hi : Nat) : Prop :=
  ∀ (s : State) (k : Nat) (a : Act), s.params = p → s.At q k → lo ≤ k → k < hi → (script p q)[k]? = some a →
    exec i s = perform a k s

theorem Drives.operation (p : Params) {i : Instr} (hi : isOperation i = true) (lo up : Nat) : Drives p i i lo up := by
  rintro s k a rfl h - - ha
  exact exec_entry hi h ha

theorem Drives.frame {p : Params} {q f : Instr} {before after : List Piece}
    (h : pieces p q = before ++ .frame f :: after) :
    Drives p f q (flatten p before).length ((flatten p before).length + (frameActs p f).length) := by
  rintro s k a rfl hk hlo hhi ha
  have hf : frameOf s.params q k = some (f, k - (flatten s.params before).length) := by
    have := frameAt_frame before after (p := s.params) (f := f) (j := k - (flatten s.params before).length) (by omega)
    rw [← h] at this
    rw [frameOf, ← this]; congr 1; omega
  rw [exec_frame f s (frameOf_isFrame hf), runFrame_at hk hf ((script_frame hf).1 ▸ ha)]

theorem Reaches.entry {i q : Instr} {s t : State} {lo up k : Nat} {a : Act} (hd : Drives s.params i q lo up) (h : s.At q k)
    (hlo : lo ≤ k) (hup : k < up) (ha : (script s.params q)[k]? = some a) (hp : perform a k s = .next t) : Reaches i s t :=
  .step (by rw [hd s k a rfl h hlo hup ha, hp])

end Sys2Proof.Machine
end

