-- ==== Sys2Proof/Laws/PerInstr.lean ====
section
/-! SUPPORT. Statements made for each instruction. ClosedCodes: an instruction is encoded under a code of its own
format, a host operation under one of the nine op codes of 30_encoding.md R70 and a frame under one of the nineteen
opcodes of R76. -/

open Sys2Proof Sys2Proof.Machine

/-- The code an instruction is encoded under belongs to its format (R70, R76). -/
def Sys2Proof.Laws.ClosedCodes.Statement (i : Instr) : Prop :=
  match encode i with
  | .hostop op _ => i.isFrame = false ∧ 1 ≤ op.toNat ∧ op.toNat ≤ 9
  | .cmdframe op _ => i.isFrame = true ∧ op ∈ opcodes


theorem Sys2Proof.Laws.ClosedCodes.init (busHost dcLine rstLine busyLine csLine : Byte) (clockHz : U32) : Statement (.init busHost dcLine rstLine busyLine csLine clockHz) := by
  simp [Statement, encode, Instr.isFrame]

theorem Sys2Proof.Laws.ClosedCodes.deinit : Statement .deinit := by
  simp [Statement, encode, Instr.isFrame]

theorem Sys2Proof.Laws.ClosedCodes.hardwareInit (fastMode : Bool) : Statement (.hardwareInit fastMode) := by
  simp [Statement, encode, Instr.isFrame]

theorem Sys2Proof.Laws.ClosedCodes.clear (fillByte : Byte) : Statement (.clear fillByte) := by
  simp [Statement, encode, Instr.isFrame]

theorem Sys2Proof.Laws.ClosedCodes.loadBaseMap (data : BufRef) (fastMode : Bool) : Statement (.loadBaseMap data fastMode) := by
  simp [Statement, encode, Instr.isFrame]

theorem Sys2Proof.Laws.ClosedCodes.drawRegion (x y : U16) (packedBits : BufRef) (widthBits heightRows : U16) (deferRefresh : Bool) : Statement (.drawRegion x y packedBits widthBits heightRows deferRefresh) := by
  simp [Statement, encode, Instr.isFrame]

theorem Sys2Proof.Laws.ClosedCodes.triggerRefresh : Statement .triggerRefresh := by
  simp [Statement, encode, Instr.isFrame]

theorem Sys2Proof.Laws.ClosedCodes.deepSleep : Statement .deepSleep := by
  simp [Statement, encode, Instr.isFrame]

theorem Sys2Proof.Laws.ClosedCodes.pack (xStart yStart width height : U16) (format : PixelFormat) (src : BufRef)
    (threshold : Option Byte) : Statement (.pack xStart yStart width height format src threshold) := by
  cases threshold <;> simp [Statement, encode, Instr.isFrame]

theorem Sys2Proof.Laws.ClosedCodes.softReset : Statement .softReset := by
  simp [Statement, encode, Instr.isFrame, opcodes]

theorem Sys2Proof.Laws.ClosedCodes.driverOutputControl (gate : U16) (tail : List Byte) : Statement (.driverOutputControl gate tail) := by
  simp [Statement, encode, Instr.isFrame, opcodes]

theorem Sys2Proof.Laws.ClosedCodes.boosterSoftStart (literal : List Byte) : Statement (.boosterSoftStart literal) := by
  simp [Statement, encode, Instr.isFrame, opcodes]

theorem Sys2Proof.Laws.ClosedCodes.dataEntryMode (literal : List Byte) : Statement (.dataEntryMode literal) := by
  simp [Statement, encode, Instr.isFrame, opcodes]

theorem Sys2Proof.Laws.ClosedCodes.ramXWindow (xs xe : U16) : Statement (.ramXWindow xs xe) := by
  simp [Statement, encode, Instr.isFrame, opcodes]

theorem Sys2Proof.Laws.ClosedCodes.ramYWindow (ys ye : U16) : Statement (.ramYWindow ys ye) := by
  simp [Statement, encode, Instr.isFrame, opcodes]

theorem Sys2Proof.Laws.ClosedCodes.ramXCounter (xc : U16) : Statement (.ramXCounter xc) := by
  simp [Statement, encode, Instr.isFrame, opcodes]

theorem Sys2Proof.Laws.ClosedCodes.ramYCounter (yc : U16) : Statement (.ramYCounter yc) := by
  simp [Statement, encode, Instr.isFrame, opcodes]

theorem Sys2Proof.Laws.ClosedCodes.borderSelect (literal : List Byte) : Statement (.borderSelect literal) := by
  simp [Statement, encode, Instr.isFrame, opcodes]

theorem Sys2Proof.Laws.ClosedCodes.tempSensorSelect (literal : List Byte) : Statement (.tempSensorSelect literal) := by
  simp [Statement, encode, Instr.isFrame, opcodes]

theorem Sys2Proof.Laws.ClosedCodes.writeRamOld (pixels : List Byte) : Statement (.writeRamOld pixels) := by
  simp [Statement, encode, Instr.isFrame, opcodes]

theorem Sys2Proof.Laws.ClosedCodes.writeRamNew (pixels : List Byte) : Statement (.writeRamNew pixels) := by
  simp [Statement, encode, Instr.isFrame, opcodes]

theorem Sys2Proof.Laws.ClosedCodes.writeLut (lut : List Byte) : Statement (.writeLut lut) := by
  simp [Statement, encode, Instr.isFrame, opcodes]

theorem Sys2Proof.Laws.ClosedCodes.gateTiming (gate : Byte) : Statement (.gateTiming gate) := by
  simp [Statement, encode, Instr.isFrame, opcodes]

theorem Sys2Proof.Laws.ClosedCodes.sourceTiming (s0 s1 s2 : Byte) : Statement (.sourceTiming s0 s1 s2) := by
  simp [Statement, encode, Instr.isFrame, opcodes]

theorem Sys2Proof.Laws.ClosedCodes.vcom (level : Byte) : Statement (.vcom level) := by
  simp [Statement, encode, Instr.isFrame, opcodes]

theorem Sys2Proof.Laws.ClosedCodes.displayUpdateControl (ctrl : Byte) : Statement (.displayUpdateControl ctrl) := by
  simp [Statement, encode, Instr.isFrame, opcodes]

theorem Sys2Proof.Laws.ClosedCodes.masterTrigger : Statement .masterTrigger := by
  simp [Statement, encode, Instr.isFrame, opcodes]

theorem Sys2Proof.Laws.ClosedCodes.deepSleepFrame (literal : List Byte) : Statement (.deepSleepFrame literal) := by
  simp [Statement, encode, Instr.isFrame, opcodes]
end

