-- ==== Sys2Proof/Laws/Script.lean ====
section
/-! SUPPORT. Running a script once and for all: which traces a piece of script makes, that the machine makes them when
the environment supplies their draws, and that the first failing transaction ends the operation. -/

namespace Sys2Proof.Machine

/-- The traces a piece of script makes when every transaction succeeds: each entry its event, a busy wait any number of
samples that read 1 and then one that reads 0 (R104). -/
inductive Follows (p : Params) : List Act → List Event → Prop where
  | nil : Follows p [] []
  | setLine (line : Line) (level : Level) {as : List Act} {es : List Event} (h : Follows p as es) :
      Follows p (.setLine line level :: as) (.setLine line level :: es)
  | xfer (bytes : List Byte) {as : List Act} {es : List Event} (h : Follows p as es) :
      Follows p (.xfer bytes :: as) (.xfer bytes :: es)
  | delay (ms : Nat) {as : List Act} {es : List Event} (h : Follows p as es) :
      Follows p (.delay ms :: as) (.delay ms :: es)
  | wait (n : Nat) {as : List Act} {es : List Event} (h : Follows p as es) :
      Follows p (waitBusy p ++ as) (waitTrace p n ++ es)

theorem Follows.append {p : Params} {as bs : List Act} {es fs : List Event} (h : Follows p as es)
    (h' : Follows p bs fs) : Follows p (as ++ bs) (es ++ fs) := by
  induction h with
  | nil => exact h'
  | setLine line level _ ih => exact .setLine line level ih
  | xfer bytes _ ih => exact .xfer bytes ih
  | delay ms _ ih => exact .delay ms ih
  | wait n _ ih => rw [List.append_assoc, List.append_assoc]; exact .wait n ih

theorem Follows.ofWaitBusy (p : Params) (n : Nat) : Follows p (waitBusy p) (waitTrace p n) := by
  simpa using Follows.wait (p := p) n .nil

theorem Follows.ofSend (p : Params) (m : Mode) (bytes : List Byte) :
    Follows p (send p m bytes) [.setLine .dc (modeLevel p m), .xfer bytes] := .setLine _ _ (.xfer _ .nil)

theorem Follows.ofSends (p : Params) (cs : List (List Byte)) :
    Follows p (cs.flatMap (send p .data)) (cs.flatMap fun c => [.setLine .dc p.dcCmdLevel.other, .xfer c]) := by
  induction cs with
  | nil => exact .nil
  | cons c rest ih => exact (Follows.ofSend p .data c).append ih

/-- An empty payload has no chunk (R102, R103). -/
theorem chunks_nil (m : Nat) : chunks m [] = [] := by
  have h : (m - 1) / m = 0 := by
    rcases Nat.eq_zero_or_pos m with rfl | h
    · rfl
    · exact Nat.div_eq_of_lt (by omega)
  simp only [chunks, ceilDiv, List.length_nil, Nat.zero_add, h, List.range_zero, List.map_nil]

/-- A command frame makes its events (R102). -/
theorem Follows.ofCmd (p : Params) (op : Byte) (payload : List Byte) :
    Follows p (cmd p op payload) (frameTrace p op payload) := by
  refine (Follows.ofSend p .command [op]).append ?_
  cases payload with
  | nil => simpa [chunks_nil] using Follows.nil
  | cons b rest => simpa [stream] using Follows.ofSends p (chunks p.maxTxn (b :: rest))

theorem Follows.ofResetPulse (p : Params) : Follows p (resetPulse p) (resetPulseTrace p) :=
  .setLine _ _ (.delay _ (.setLine _ _ (.delay _ .nil)))

/-- A frame ends with its busy wait (R251, R263, R268). -/
theorem Follows.ofCmdWait (p : Params) (op : Byte) (payload : List Byte) (n : Nat) :
    Follows p (cmd p op payload ++ waitBusy p) (frameTrace p op payload ++ waitTrace p n) :=
  (Follows.ofCmd p op payload).append (.ofWaitBusy p n)

/-- The u16 coordinate of a frame has the bytes of the number it comes from (R50). -/
@[simp] theorem le16_mod (v : Nat) : le16 (v % 65536) = le16 v := by
  have h1 : BitVec.ofNat 8 (v % 65536) = BitVec.ofNat 8 v := by
    apply BitVec.eq_of_toNat_eq; simp only [BitVec.toNat_ofNat]; omega
  have h2 : BitVec.ofNat 8 (v % 65536 / 256) = BitVec.ofNat 8 (v / 256) := by
    apply BitVec.eq_of_toNat_eq; simp only [BitVec.toNat_ofNat]; omega
  simp [le16, lo8, hi8, h1, h2]

/-- The three source timing bytes are a slice of the table (R265). -/
theorem romSlice_three (t : List Byte) (off : Nat) :
    romSlice t off 3 = [romByte t off, romByte t (off + 1), romByte t (off + 2)] := rfl

theorem Follows.ofSetWindow (p : Params) (xs xe ys ye : Nat) :
    Follows p (flatten p (setWindow xs xe ys ye)) (windowTrace p xs xe ys ye) := by
  simpa [setWindow, frameActs, windowTrace, ramXWindowActs, ramYWindowActs, ramXCounterActs, ramYCounterActs] using
    (Follows.ofCmd p 0x44 (le16 xs ++ le16 xe)).append ((Follows.ofCmd p 0x45 (le16 ys ++ le16 ye)).append
      ((Follows.ofCmd p 0x4E (le16 xs)).append (.ofCmd p 0x4F (le16 ys))))

theorem Follows.ofLoadLut (p : Params) (t : List Byte) (n : Nat) : Follows p (flatten p (loadLut p t)) (lutTrace p t n) := by
  simpa [loadLut, frameActs, lutTrace, writeLutActs, gateTimingActs, sourceTimingActs, vcomActs, romSlice_three] using
    (Follows.ofCmdWait p 0x32 (romSlice t p.lutMainOff p.lutMainLen) n).append
      ((Follows.ofCmd p 0x03 [romByte t p.lutGateOff]).append
        ((Follows.ofCmd p 0x04 (romSlice t p.lutSourceOff 3)).append (.ofCmd p 0x2C [romByte t p.lutVcomOff])))

theorem Follows.ofUpdateAndTrigger (p : Params) (ctrl : Byte) (m : Nat) :
    Follows p (flatten p (updateAndTrigger ctrl)) (frameTrace p 0x22 [ctrl] ++ (frameTrace p 0x20 [] ++ waitTrace p m)) := by
  simpa [updateAndTrigger, frameActs, displayUpdateControlActs, masterTriggerActs] using
    (Follows.ofCmd p 0x22 [ctrl]).append (.ofCmdWait p 0x20 [] m)

theorem Follows.ofTrigger (p : Params) (t : List Byte) (ctrl : Byte) (n m : Nat) :
    Follows p (flatten p (loadLut p t ++ updateAndTrigger ctrl)) (triggerTrace p t ctrl n m) := by
  simpa [triggerTrace] using (Follows.ofLoadLut p t n).append (.ofUpdateAndTrigger p ctrl m)

theorem Follows.ofFullTrigger (p : Params) (n m : Nat) : Follows p (flatten p (fullTrigger p)) (fullTriggerTrace p n m) :=
  .ofTrigger p _ _ n m

theorem Follows.ofPartialTrigger (p : Params) (n m : Nat) :
    Follows p (flatten p (partialTrigger p)) (partialTriggerTrace p n m) := .ofTrigger p _ _ n m

/-- A script entry that makes event `e` when its draw goes well leads to the state after `e`, one entry further. -/
theorem perform_setLine (l : Line) (v : Level) (k : Nat) (s : State) :
    perform (.setLine l v) k s = .next ((s.observe (.setLine l v)).goto (k + 1)) := rfl

theorem perform_delay (ms k : Nat) (s : State) :
    perform (.delay ms) k s = .next ((s.observe (.delay ms)).goto (k + 1)) := rfl

theorem perform_xfer {bytes : List Byte} {k : Nat} {s : State} (h : s.outcome = .ok) :
    perform (.xfer bytes) k s = .next ((s.observe (.xfer bytes)).goto (k + 1)) := by
  simp only [perform, h]; rfl

theorem perform_xfer_fail {bytes : List Byte} {k : Nat} {s : State} {c : Cause} (h : s.outcome = .fail c) :
    perform (.xfer bytes) k s = .next ((s.observe (.xfer bytes)).finish (.busError c)) := by
  simp only [perform, h, raise]; rfl

theorem perform_sample_low {k : Nat} {s : State} (h : s.busyLevel = .low) :
    perform .sampleBusy k s = .next ((s.observe (.sampleBusy .low)).goto (k + 2)) := by
  simp only [perform, h]; rfl

theorem perform_sample_high {k : Nat} {s : State} (h : s.busyLevel = .high) :
    perform .sampleBusy k s = .next ((s.observe (.sampleBusy .high)).goto (k + 1)) := by
  simp only [perform, h]; rfl

theorem perform_pollDelay (ms k : Nat) (s : State) :
    perform (.pollDelay ms) k s = .next ((s.observe (.delay ms)).goto (k - 1)) := rfl

theorem State.At.observe {s : State} {i : Instr} {k : Nat} (h : s.At i k) (e : Event) (j : Nat) :
    ((s.observe e).goto j).At i j := ⟨by simp [h.1], by simp⟩

/-- A busy wait in a script ends when the environment reads 0 (R104). -/
theorem reaches_wait {i q : Instr} {lo up : Nat} (n : Nat) {s : State} (hi : Drives s.params i q lo up)
    {pre post : List Act} (hlo : lo ≤ pre.length) (hup : pre.length + 2 ≤ up)
    (hk : s.At q pre.length) (hs : script s.params q = pre ++ (waitBusy s.params ++ post))
    (hd : Supplies s (waitTrace s.params n)) :
    Reaches i s ((s.observeAll (waitTrace s.params n)).goto (pre.length + 2)) := by
  have h0 : (script s.params q)[pre.length]? = some .sampleBusy := by simp [hs, waitBusy]
  have h1 : (script s.params q)[pre.length + 1]? = some (.pollDelay s.params.busyPollMs) := by
    rw [hs, List.getElem?_append_right (by omega)]; simp [waitBusy]
  induction n generalizing s with
  | zero => exact .entry hi hk hlo (by omega) h0 (perform_sample_low ((Supplies_sample s _ _).1 hd).1)
  | succ n ih =>
    obtain ⟨hb, hd⟩ := (Supplies_sample s _ _).1 hd
    have a1 := Reaches.entry hi hk hlo (by omega) h0 (perform_sample_high hb)
    have a2 := Reaches.entry (t := ((s.observe (.sampleBusy .high)).observe (.delay s.params.busyPollMs)).goto pre.length)
      (by simpa using hi) (hk.observe (.sampleBusy .high) (pre.length + 1)) (by omega) (by omega) (by simpa using h1)
      (by simp [perform_pollDelay, State.observe_goto])
    refine (a1.trans a2).trans ?_
    have := ih (s := ((s.observe (.sampleBusy .high)).observe (.delay s.params.busyPollMs)).goto pre.length)
      (by simpa using hi) ⟨by simp [hk.1], by simp⟩ (by simpa using hs) ((Supplies_goto _ _ _).2 hd) (by simpa using h0)
      (by simpa using h1)
    simpa [State.observeAll_goto, waitTrace] using this

/-- A piece of script is run to its end: every event of its trace happens, in order (R60, R109). -/
theorem Follows.reaches {p : Params} {acts : List Act} {tr : List Event} (h : Follows p acts tr) {i q : Instr}
    {lo up : Nat} (hi : Drives p i q lo up) {s : State} (hp : s.params = p) {pre post : List Act} (hlo : lo ≤ pre.length)
    (hup : pre.length + acts.length ≤ up) (hk : s.At q pre.length)
    (hs : script p q = pre ++ (acts ++ post)) (hd : Supplies s tr) :
    Reaches i s ((s.observeAll tr).goto (pre.length + acts.length)) := by
  subst hp
  generalize hq : s.params = p at h hs hi
  induction h generalizing s pre with
  | nil =>
    have : s.goto pre.length = s := by obtain ⟨_, h2⟩ := hk; cases s; simp_all [State.goto]
    simpa [this] using Reaches.refl i s
  | setLine l v _ ih =>
    have a1 := Reaches.entry (by simpa [hq] using hi) hk hlo (by simp at hup; omega) (by simp [hq, hs]) (perform_setLine l v pre.length s)
    refine a1.trans ?_
    have := ih (s := (s.observe (.setLine l v)).goto (pre.length + 1)) (pre := pre ++ [.setLine l v])
      (by simp; omega) (by simp at hup ⊢; omega) ⟨by simp [hk.1], by simp⟩ ((Supplies_goto _ _ _).2 hd) (by simp [hq]) (by simp [hs])
    simpa [State.observeAll_goto, Nat.add_assoc, Nat.add_comm 1] using this
  | xfer b _ ih =>
    have a1 := Reaches.entry (by simpa [hq] using hi) hk hlo (by simp at hup; omega) (by simp [hq, hs]) (perform_xfer (bytes := b) (k := pre.length) ((Supplies_xfer s _ _).1 hd).1)
    refine a1.trans ?_
    have := ih (s := (s.observe (.xfer b)).goto (pre.length + 1)) (pre := pre ++ [.xfer b])
      (by simp; omega) (by simp at hup ⊢; omega) ⟨by simp [hk.1], by simp⟩ ((Supplies_goto _ _ _).2 ((Supplies_xfer s _ _).1 hd).2) (by simp [hq]) (by simp [hs])
    simpa [State.observeAll_goto, Nat.add_assoc, Nat.add_comm 1] using this
  | delay ms _ ih =>
    have a1 := Reaches.entry (by simpa [hq] using hi) hk hlo (by simp at hup; omega) (by simp [hq, hs]) (perform_delay ms pre.length s)
    refine a1.trans ?_
    have := ih (s := (s.observe (.delay ms)).goto (pre.length + 1)) (pre := pre ++ [.delay ms])
      (by simp; omega) (by simp at hup ⊢; omega) ⟨by simp [hk.1], by simp⟩ ((Supplies_goto _ _ _).2 hd) (by simp [hq]) (by simp [hs])
    simpa [State.observeAll_goto, Nat.add_assoc, Nat.add_comm 1] using this
  | @wait n as es _ ih =>
    subst hq
    rw [Supplies_append] at hd
    have a1 := reaches_wait n hi hlo (by simp [waitBusy] at hup; omega) hk (by rw [hs, List.append_assoc]) hd.1
    refine a1.trans ?_
    have := ih (s := (s.observeAll (waitTrace s.params n)).goto (pre.length + 2)) (pre := pre ++ waitBusy s.params)
      (by simp; omega) (by simp at hup ⊢; omega) ⟨by simp [hk.1], by simp [waitBusy]⟩ ((Supplies_goto _ _ _).2 hd.2) (by simp) (by simp [hs])
    simpa [State.observeAll_goto, State.observeAll_append, waitBusy, Nat.add_assoc, Nat.add_comm 2] using this

/-- A wait holds no transaction. -/
theorem xfer_not_mem_waitTrace (p : Params) (n : Nat) (b : List Byte) : .xfer b ∉ waitTrace p n := by
  induction n with
  | zero => simp [waitTrace]
  | succ n ih => simp [waitTrace, ih]

/-- The first failing transaction ends the operation: what precedes it in the trace has happened, and nothing after it
does (R302). -/
theorem Follows.fails {p : Params} {acts : List Act} {tr : List Event} (h : Follows p acts tr) {i q : Instr}
    {lo up : Nat} (hi : Drives p i q lo up) {s : State} (hp : s.params = p) {pre post : List Act} (hlo : lo ≤ pre.length)
    (hup : pre.length + acts.length ≤ up) (hk : s.At q pre.length)
    (hs : script p q = pre ++ (acts ++ post)) {before after : List Event} {b : List Byte}
    (ht : tr = before ++ .xfer b :: after) (hd : Supplies s before) {c : Cause}
    (hc : (s.observeAll before).outcome = .fail c) :
    Reaches i s (((s.observeAll before).observe (.xfer b)).finish (.busError c)) := by
  subst hp
  generalize hq : s.params = p at h hs hi
  induction h generalizing s pre before with
  | nil => simp at ht
  | setLine l v _ ih =>
    cases before with
    | nil => simp at ht
    | cons e rest =>
      simp only [List.cons_append, List.cons.injEq] at ht
      obtain ⟨rfl, ht⟩ := ht
      have a1 := Reaches.entry (by simpa [hq] using hi) hk hlo (by simp at hup; omega) (by simp [hq, hs]) (perform_setLine l v pre.length s)
      refine a1.trans ?_
      have := ih (s := (s.observe (.setLine l v)).goto (pre.length + 1)) (pre := pre ++ [.setLine l v])
        (by simp; omega) (by simp at hup ⊢; omega) ⟨by simp [hk.1], by simp⟩ ht ((Supplies_goto _ _ _).2 hd)
        (by simpa [State.observeAll_goto] using hc) (by simp [hq]) (by simp [hs])
      simpa [State.observeAll_goto, State.observe_goto] using this
  | xfer b' _ ih =>
    cases before with
    | nil =>
      simp only [List.nil_append, List.cons.injEq, Event.xfer.injEq] at ht
      obtain ⟨rfl, -⟩ := ht
      exact .entry (by simpa [hq] using hi) hk hlo (by simp at hup; omega) (by simp [hq, hs]) (perform_xfer_fail (by simpa using hc))
    | cons e rest =>
      simp only [List.cons_append, List.cons.injEq] at ht
      obtain ⟨rfl, ht⟩ := ht
      have a1 := Reaches.entry (by simpa [hq] using hi) hk hlo (by simp at hup; omega) (by simp [hq, hs]) (perform_xfer (bytes := b') (k := pre.length) ((Supplies_xfer s _ _).1 hd).1)
      refine a1.trans ?_
      have := ih (s := (s.observe (.xfer b')).goto (pre.length + 1)) (pre := pre ++ [.xfer b'])
        (by simp; omega) (by simp at hup ⊢; omega) ⟨by simp [hk.1], by simp⟩ ht ((Supplies_goto _ _ _).2 ((Supplies_xfer s _ _).1 hd).2)
        (by simpa [State.observeAll_goto] using hc) (by simp [hq]) (by simp [hs])
      simpa [State.observeAll_goto, State.observe_goto] using this
  | delay ms _ ih =>
    cases before with
    | nil => simp at ht
    | cons e rest =>
      simp only [List.cons_append, List.cons.injEq] at ht
      obtain ⟨rfl, ht⟩ := ht
      have a1 := Reaches.entry (by simpa [hq] using hi) hk hlo (by simp at hup; omega) (by simp [hq, hs]) (perform_delay ms pre.length s)
      refine a1.trans ?_
      have := ih (s := (s.observe (.delay ms)).goto (pre.length + 1)) (pre := pre ++ [.delay ms])
        (by simp; omega) (by simp at hup ⊢; omega) ⟨by simp [hk.1], by simp⟩ ht ((Supplies_goto _ _ _).2 hd)
        (by simpa [State.observeAll_goto] using hc) (by simp [hq]) (by simp [hs])
      simpa [State.observeAll_goto, State.observe_goto] using this
  | @wait n as es _ ih =>
    subst hq
    obtain ⟨rest, rfl, he⟩ : ∃ rest, before = waitTrace s.params n ++ rest ∧ es = rest ++ .xfer b :: after := by
      rcases List.append_eq_append_iff.1 ht with ⟨rest, h1, h2⟩ | ⟨rest, h1, h2⟩
      · exact ⟨rest, h1, h2⟩
      · cases rest with
        | nil => exact ⟨[], by simpa using h1.symm, by simpa using h2.symm⟩
        | cons e r =>
          simp only [List.cons_append, List.cons.injEq] at h2
          exact absurd (by rw [h1, ← h2.1]; simp) (xfer_not_mem_waitTrace s.params n b)
    rw [Supplies_append] at hd
    have a1 := reaches_wait n hi hlo (by simp [waitBusy] at hup; omega) hk (by rw [hs, List.append_assoc]) hd.1
    refine a1.trans ?_
    have := ih (s := (s.observeAll (waitTrace s.params n)).goto (pre.length + 2)) (pre := pre ++ waitBusy s.params)
      (by simp; omega) (by simp at hup ⊢; omega) ⟨by simp [hk.1], by simp [waitBusy]⟩ he ((Supplies_goto _ _ _).2 hd.2)
      (by simpa [State.observeAll_goto, State.observeAll_append] using hc) (by simp) (by simp [hs])
    simpa [State.observeAll_goto, State.observeAll_append, State.observe_goto] using this

end Sys2Proof.Machine
end

