-- ==== Sys2Proof/Laws/Step.lean ====
section
/-! SUPPORT. What one step can do, said once: which instruction makes a step and from which state, and what an operation or
a frame that answers a next state has done. -/

namespace Sys2Proof.Machine

/-- What decodes under op code 0x09 is a `pack` (R70). -/
theorem decodeHostop_pack {args : List Arg} {i : Instr} (h : decodeHostop 0x09 args = .ok i) : isPack i = true := by
  change decodePack args = .ok i at h
  unfold decodePack at h
  split at h
  · split at h <;> cases h; rfl
  · split at h <;> cases h; rfl
  · cases h

/-- What a host issues is no command frame (R78). -/
theorem decodeHostop_not_frame {op : Byte} {args : List Arg} {i : Instr} (h : decodeHostop op args = .ok i) :
    i.isFrame = false := by
  unfold decodeHostop at h
  split at h
  case h_9 =>
    have : isPack i = true := decodeHostop_pack h
    cases i <;> first | rfl | cases this
  all_goals first | (split at h <;> cases h <;> rfl) | cases h

/-- Taking a request changes the list of requests and nothing else. -/
theorem takeRequest_run {s u : State} {i : Instr} (h : takeRequest s = .run i u) :
    ∃ q later, s.requests = q :: later ∧ decodeHostop q.op q.args = .ok i ∧ u = { s with requests := later } := by
  unfold takeRequest at h
  split at h
  · cases h
  · rename_i q later hq
    split at h
    · rename_i j hj
      cases h
      exact ⟨q, later, hq, hj, rfl⟩
    · cases h

/-- The instruction a step runs is what the sequencer issues for the operation in flight, or one taken from the host:
when nothing is in flight, or a `pack` beside the one in flight. The state it runs from differs in the lists of requests
and turns alone (R312, R313). -/
theorem nextMove_run {s u : State} {i : Instr} (h : nextMove s = .run i u) :
    configOk s.params = true
    ∧ (∃ rs ts n, u = { s with requests := rs, turns := ts, turnCount := n })
    ∧ ((s.cur = none ∧ i.isFrame = false) ∨ (∃ q, s.cur = some q ∧ i = s.issued q) ∨ isPack i = true) := by
  unfold nextMove at h
  split at h
  · rename_i hc
    refine ⟨hc, ?_⟩
    split at h
    · rename_i hn
      obtain ⟨q, later, -, hd, rfl⟩ := takeRequest_run h
      exact ⟨⟨later, s.turns, s.turnCount, rfl⟩, .inl ⟨hn, decodeHostop_not_frame hd⟩⟩
    · rename_i j hj
      split at h
      · rename_i hw
        split at h
        · obtain ⟨q, later, hq, hd, rfl⟩ := takeRequest_run h
          refine ⟨⟨later, s.turns.tail, s.turnCount + 1, rfl⟩, .inr (.inr ?_)⟩
          rw [State.takeTurn_requests] at hq
          simp only [packWaits, hq, decide_eq_true_eq] at hw
          exact decodeHostop_pack (hw ▸ hd)
        · cases h
          exact ⟨⟨s.requests, s.turns.tail, s.turnCount + 1, rfl⟩, .inr (.inl ⟨j, hj, rfl⟩)⟩
      · cases h
        exact ⟨⟨s.requests, s.turns, s.turnCount, rfl⟩, .inr (.inl ⟨j, hj, rfl⟩)⟩
  · cases h

/-- An operation that answers a next state was accepted, or performed the script entry at the step pointer, or ended with
`Ok` past its last entry (R109). -/
theorem exec_cases {i : Instr} {s t : State} (hi : isOperation i = true) (h : exec i s = .next t) :
    (s.pc = .idle ∧ t = s.accept i)
    ∨ ∃ k, s.At i k ∧ ((∃ a, (script s.params i)[k]? = some a ∧ perform a k s = .next t)
        ∨ ((script s.params i).length ≤ k ∧ t = s.finish .ok)) := by
  rw [exec_script i s hi] at h
  unfold runScript at h
  split at h
  · rename_i hp
    cases h
    exact .inl ⟨hp, rfl⟩
  · rename_i k hp
    split at h
    · rename_i hc
      refine .inr ⟨k, ⟨hc, hp⟩, ?_⟩
      split at h
      · rename_i a ha
        exact .inl ⟨a, ha, h⟩
      · rename_i ha
        cases h
        exact .inr ⟨List.getElem?_eq_none_iff.1 ha, rfl⟩
    · cases h

/-- A frame that answers a next state performed the script entry of the operation in flight that is sending it (R250). -/
theorem exec_frame_cases {f : Instr} {s t : State} (hf : f.isFrame = true) (h : exec f s = .next t) :
    ∃ q k j a, s.At q k ∧ frameOf s.params q k = some (f, j) ∧ (frameActs s.params f)[j]? = some a
      ∧ perform a k s = .next t := by
  rw [exec_frame f s hf] at h
  exact runFrame_cases h

/-- A step that answers a next state leaves the state as it is, or is `exec` of a `pack`, or of the operation in flight or
one taken from the host by an idle block, from a state that differs in the lists of requests and turns alone. A frame the
operation is sending is that operation's own step. -/
theorem step_cases {s t : State} (h : step s = .next t) :
    t = s ∨ ∃ i rs ts n, configOk s.params = true
      ∧ exec i { s with requests := rs, turns := ts, turnCount := n } = .next t
      ∧ (isPack i = true ∨ (isOperation i = true ∧ (s.cur = none ∨ s.cur = some i))) := by
  unfold step at h
  split at h
  · cases h; exact .inl rfl
  · rename_i i u hm
    obtain ⟨hc, ⟨rs, ts, n, rfl⟩, ⟨hn, hf⟩ | ⟨q, hq, rfl⟩ | hp⟩ := nextMove_run hm
    · refine .inr ⟨i, rs, ts, n, hc, h, ?_⟩
      cases hp : isPack i
      · exact .inr ⟨by simp [isOperation, hp, hf], .inl hn⟩
      · exact .inl rfl
    · have h : exec q { s with requests := rs, turns := ts, turnCount := n } = .next t := by
        rw [← h]
        exact (exec_issued (s := { s with requests := rs, turns := ts, turnCount := n }) hq).symm
      refine .inr ⟨q, rs, ts, n, hc, h, ?_⟩
      cases hp : isPack q
      · cases hf : q.isFrame
        · exact .inr ⟨by simp [isOperation, hp, hf], .inr hq⟩
        · obtain ⟨q', k, j, a, hk, hj, -, -⟩ := exec_frame_cases hf h
          have hq' : q = q' := by simpa [hq] using hk.1
          subst hq'
          simp [frameOf, pieces_nil (show isOperation q = false by simp [isOperation, hf]), frameAt] at hj
      · exact .inl rfl
    · exact .inr ⟨i, rs, ts, n, hc, h, .inl hp⟩
  · cases h

/-- `pack` is the only instruction whose step no script gives. -/
theorem exec_pack_cases {i : Instr} {s t : State} (hi : isPack i = true) (h : exec i s = .next t) :
    ∃ r, t = s.respond r := by
  cases i <;> cases hi
  rw [exec_pack] at h
  cases h
  exact ⟨_, rfl⟩

end Sys2Proof.Machine
end

