-- ==== Sys2Proof/Machine/Text.lean ====
section
/-! DEFINITION. The textual syntax of requests and frames (30_encoding.md R80): notation, with no effect on the machine.
Numbers are written in decimal and a buffer as its bytes, as the vectors `V-PW` of 95_test_vectors.md do. -/

namespace Sys2Proof.Machine

/-- One hexadecimal digit. -/
def hexDigit (n : Nat) : Char := "0123456789ABCDEF".toList.getD (n % 16) '0'

/-- A byte as two hexadecimal digits. -/
def hexByte (b : Byte) : String := String.ofList [hexDigit (b.toNat / 16), hexDigit b.toNat]

/-- A byte list, `[b0 b1 ...]`. -/
def bytesText (bytes : List Byte) : String := "[" ++ " ".intercalate (bytes.map hexByte) ++ "]"

/-- A buffer: its bytes, or `null`. -/
def bufText : BufRef → String
  | none => "null"
  | some bytes => bytesText bytes

/-- The value of a field. -/
def argText : Arg → String
  | .u1 v => toString v.toNat
  | .u8 v => toString v.toNat
  | .u16 v => toString v.toNat
  | .u32 v => toString v.toNat
  | .buf v => bufText v

/-- The name of an operation (R70). -/
def opName (op : Byte) : String :=
  match op.toNat with
  | 0x01 => "init"
  | 0x02 => "deinit"
  | 0x03 => "hardwareInit"
  | 0x04 => "clear"
  | 0x05 => "loadBaseMap"
  | 0x06 => "drawRegion"
  | 0x07 => "triggerRefresh"
  | 0x08 => "deepSleep"
  | 0x09 => "pack"
  | _ => "unknown"

/-- The names of an operation's fields, in the order of R71. -/
def fieldNames (op : Byte) : List String :=
  match op.toNat with
  | 0x01 => ["busHost", "dcLine", "rstLine", "busyLine", "csLine", "clockHz"]
  | 0x03 => ["fastMode"]
  | 0x04 => ["fillByte"]
  | 0x05 => ["data", "fastMode"]
  | 0x06 => ["x", "y", "packedBits", "widthBits", "heightRows", "deferRefresh"]
  | 0x09 => ["xStart", "yStart", "width", "height", "format", "src", "threshold"]
  | _ => []

/-- The `name=value` pairs of a request. -/
def pairTexts (names : List String) (args : List Arg) : List String :=
  List.zipWith (fun name arg => name ++ "=" ++ argText arg) names args

/-- The text of an encoding (R80): the operation's name and its pairs, or `CMD 0xNN [b0 b1 ...]`. -/
def encodingText : Encoding → String
  | .hostop op [] => opName op
  | .hostop op (a :: rest) => opName op ++ " " ++ ", ".intercalate (pairTexts (fieldNames op) (a :: rest))
  | .cmdframe opcode payload => "CMD 0x" ++ hexByte opcode ++ " " ++ bytesText payload

/-- The text of an instruction (R80). -/
def instrText (i : Instr) : String := encodingText (encode i)

end Sys2Proof.Machine
end

