-- ==== Sys2Proof/Tests/Slice0.lean ====
section
/-! SUPPORT. Tests and witnesses. Expected results come from the rules' own examples and from 95_test_vectors.md; each test
names its source. The witnesses (`witness_<Obligation>`) show that the hypotheses of an obligation are met together. -/

namespace Sys2Proof.Tests

open Sys2Proof Sys2Proof.Machine

/-- A small panel, 8 by 2, with `MAX_TXN = 64` (the value of V-RT-9) and concrete tables and literals. -/
def tiny : Params :=
  { Params.reference with
    w := 8, h := 2, maxTxn := 64
    wfDefault := (List.range 112).map (BitVec.ofNat 8)
    wfFast := (List.range 112).map fun i => BitVec.ofNat 8 (i + 128)
    pDrvOutTail := [0x02], pBooster := [0xAE, 0xC7], pDataEntry := [0x01], pBorder := [0x05], pTempSensor := [0x80]
    cleanStartCtrl := 0xF8, pDeepSleep := [0x03] }

/-- An idle block after reset on the small panel, with the draws the environment will give. -/
def fresh (outcomes : List BusOutcome) (levels : List Level) : State :=
  { State.reset with params := tiny, outcomes := outcomes, busyLevels := levels }

/-- An idle block that is Ready on the small panel, with the draws the environment will give. -/
def ready (outcomes : List BusOutcome) (levels : List Level) : State :=
  { fresh outcomes levels with
    drv := .ready, cfg := some ⟨1, 10, 11, 12, 13, 0⟩, busHeld := true, dcLvl := .driven .high, rstLvl := .driven .high }

/-- Successful outcomes, enough for any operation on the small panel. -/
def oks : List BusOutcome := List.replicate 40 .ok

/-- Request `i` in flight at `Step(k)`. -/
def inFlight (i : Instr) (k : Nat) (s : State) : State := { s with cur := some i, pc := .step k }

/-- The `init` request of V-LC-1. -/
def initRequest : Instr := .init 1 10 11 12 13 0

/-! ## Well-formedness: each check refuses an ill-formed term -/

theorem test_wellFormed_refuses_coordinates :
    WellFormed tiny (.driverOutputControl 2 [0x02]) = false ∧ WellFormed tiny (.driverOutputControl 1 []) = false
    ∧ WellFormed tiny (.ramXWindow 1 7) = false ∧ WellFormed tiny (.ramXWindow 0 6) = false
    ∧ WellFormed tiny (.ramXWindow 8 7) = false ∧ WellFormed tiny (.ramXWindow 0 15) = false
    ∧ WellFormed tiny (.ramYWindow 1 0) = false ∧ WellFormed tiny (.ramYWindow 0 2) = false
    ∧ WellFormed tiny (.ramXCounter 4) = false ∧ WellFormed tiny (.ramXCounter 8) = false
    ∧ WellFormed tiny (.ramYCounter 2) = false := by decide

theorem test_wellFormed_refuses_payloads :
    WellFormed tiny (.boosterSoftStart []) = false ∧ WellFormed tiny (.dataEntryMode [0x02]) = false
    ∧ WellFormed tiny (.borderSelect [0x05, 0x05]) = false ∧ WellFormed tiny (.tempSensorSelect [0x81]) = false
    ∧ WellFormed tiny (.writeRamOld []) = false ∧ WellFormed tiny (.writeRamOld [0, 0, 0]) = false
    ∧ WellFormed tiny (.writeRamNew [0]) = false ∧ WellFormed tiny (.writeLut [0x00]) = false
    ∧ WellFormed tiny (.gateTiming 0x6A) = false ∧ WellFormed tiny (.sourceTiming 0x6A 0x6B 0x6D) = false
    ∧ WellFormed tiny (.vcom 0x6E) = false ∧ WellFormed tiny (.displayUpdateControl 0xC8) = false
    ∧ WellFormed tiny (.deepSleepFrame [0x01]) = false := by decide

theorem test_wellFormed_accepts :
    WellFormed tiny (.driverOutputControl 1 [0x02]) = true ∧ WellFormed tiny (.ramXWindow 0 7) = true
    ∧ WellFormed tiny (.gateTiming 0x69) = true ∧ WellFormed tiny (.sourceTiming 0xEA 0xEB 0xEC) = true
    ∧ WellFormed tiny (.vcom 0x6D) = true ∧ WellFormed tiny (.writeRamNew [0, 1]) = true := by decide

/-- R7: each condition of a well-formed configuration refuses one that breaks it. -/
theorem test_configOk_refuses :
    configOk tiny = true ∧ configOk { tiny with w := 0 } = false ∧ configOk { tiny with h := 0 } = false
    ∧ configOk { tiny with w := 12 } = false ∧ configOk { tiny with w := 0x10008 } = false
    ∧ configOk { tiny with h := 0x10001 } = false ∧ configOk { tiny with wfDefault := [] } = false
    ∧ configOk { tiny with wfFast := [] } = false ∧ configOk { tiny with maxTxn := 0 } = false
    ∧ configOk { tiny with lutMainLen := 104 } = false ∧ configOk { tiny with lutMainOff := 8 } = false
    ∧ configOk { tiny with lutVcomOff := 112 } = false := by decide

/-! ## Decoding: words written out from R70, R71 and R75–R77, one for each constructor -/

theorem test_decode_hostops :
    decode tiny (.hostop 0x01 [.u8 1, .u8 10, .u8 11, .u8 12, .u8 13, .u32 0]) = .ok (.init 1 10 11 12 13 0)
    ∧ decode tiny (.hostop 0x02 []) = .ok .deinit
    ∧ decode tiny (.hostop 0x03 [.u1 true]) = .ok (.hardwareInit true)
    ∧ decode tiny (.hostop 0x04 [.u8 0xFF]) = .ok (.clear 0xFF)
    ∧ decode tiny (.hostop 0x05 [.buf (some [1, 2]), .u1 false]) = .ok (.loadBaseMap (some [1, 2]) false)
    ∧ decode tiny (.hostop 0x06 [.u16 13, .u16 5, .buf (some [0xFA, 0xFD]), .u16 8, .u16 2, .u1 true])
        = .ok (.drawRegion 13 5 (some [0xFA, 0xFD]) 8 2 true)
    ∧ decode tiny (.hostop 0x07 []) = .ok .triggerRefresh
    ∧ decode tiny (.hostop 0x08 []) = .ok .deepSleep
    ∧ decode tiny (.hostop 0x09 [.u16 13, .u16 5, .u16 3, .u16 2, .u8 0x03, .buf none, .u8 7])
        = .ok (.pack 13 5 3 2 .bgra8888 none (some 7)) := by decide

theorem test_decode_frames :
    decode tiny (.cmdframe 0x12 []) = .ok .softReset
    ∧ decode tiny (.cmdframe 0x01 [0x1F, 0x03, 0x02]) = .ok (.driverOutputControl 0x031F [0x02])
    ∧ decode tiny (.cmdframe 0x0C [0xAE, 0x01]) = .ok (.boosterSoftStart [0xAE, 0x01])
    ∧ decode tiny (.cmdframe 0x11 [0x01]) = .ok (.dataEntryMode [0x01])
    ∧ decode tiny (.cmdframe 0x44 [0xD8, 0x01, 0xDF, 0x01]) = .ok (.ramXWindow 472 479)
    ∧ decode tiny (.cmdframe 0x45 [0x05, 0x00, 0x06, 0x00]) = .ok (.ramYWindow 5 6)
    ∧ decode tiny (.cmdframe 0x4E [0xD8, 0x01]) = .ok (.ramXCounter 472)
    ∧ decode tiny (.cmdframe 0x4F [0x1F, 0x03]) = .ok (.ramYCounter 799)
    ∧ decode tiny (.cmdframe 0x3C [0x05]) = .ok (.borderSelect [0x05])
    ∧ decode tiny (.cmdframe 0x18 [0x80]) = .ok (.tempSensorSelect [0x80]) := by decide

theorem test_decode_data_frames :
    decode tiny (.cmdframe 0x24 [0xFF]) = .ok (.writeRamOld [0xFF])
    ∧ decode tiny (.cmdframe 0x26 [0xFE, 0xFF]) = .ok (.writeRamNew [0xFE, 0xFF])
    ∧ decode tiny (.cmdframe 0x32 (List.replicate 105 0x11)) = .ok (.writeLut (List.replicate 105 0x11))
    ∧ decode tiny (.cmdframe 0x03 [0x69]) = .ok (.gateTiming 0x69)
    ∧ decode tiny (.cmdframe 0x04 [0x6A, 0x6B, 0x6C]) = .ok (.sourceTiming 0x6A 0x6B 0x6C)
    ∧ decode tiny (.cmdframe 0x2C [0x6D]) = .ok (.vcom 0x6D)
    ∧ decode tiny (.cmdframe 0x22 [0xC7]) = .ok (.displayUpdateControl 0xC7)
    ∧ decode tiny (.cmdframe 0x20 []) = .ok .masterTrigger
    ∧ decode tiny (.cmdframe 0x10 [0x03]) = .ok (.deepSleepFrame [0x03]) := by decide

/-- R78, R79 and the fields of R71: what the decoders refuse, by name. -/
theorem test_decode_refuses :
    decode tiny (.hostop 0x00 []) = .error .unknownOperation ∧ decode tiny (.hostop 0x0A []) = .error .unknownOperation
    ∧ decode tiny (.hostop 0x09 [.u16 0, .u16 0, .u16 1, .u16 1, .u8 4, .buf none]) = .error .unknownFormat
    ∧ decode tiny (.hostop 0x04 [.u16 0xFF]) = .error .malformedRequest
    ∧ decode tiny (.cmdframe 0x13 []) = .error .unknownOpcode ∧ decode tiny (.cmdframe 0x20 [0]) = .error .malformedFrame
    ∧ decode tiny (.cmdframe 0x44 [0, 0, 7]) = .error .malformedFrame ∧ decode tiny (.cmdframe 0x32 [0]) = .error .malformedFrame := by
  decide

/-- R75, R79: the lengths the opcode fixes, one byte short and one byte long. -/
theorem test_decode_refuses_lengths :
    decode tiny (.cmdframe 0x01 [1, 0]) = .error .malformedFrame ∧ decode tiny (.cmdframe 0x01 [1, 0, 2, 2]) = .error .malformedFrame
    ∧ decode tiny (.cmdframe 0x0C [0xAE]) = .error .malformedFrame ∧ decode tiny (.cmdframe 0x11 []) = .error .malformedFrame
    ∧ decode tiny (.cmdframe 0x3C [5, 5]) = .error .malformedFrame ∧ decode tiny (.cmdframe 0x18 []) = .error .malformedFrame
    ∧ decode tiny (.cmdframe 0x10 [3, 3]) = .error .malformedFrame ∧ decode tiny (.cmdframe 0x24 []) = .error .malformedFrame
    ∧ decode tiny (.cmdframe 0x24 [1, 2, 3]) = .error .malformedFrame ∧ decode tiny (.cmdframe 0x26 [1]) = .error .malformedFrame
    ∧ decode tiny (.cmdframe 0x32 (List.replicate 106 0)) = .error .malformedFrame := by decide

/-- The table's words: 0x04 is the host operation `clear`, 0x12 the frame SOFT_RESET, 0x00 nothing (log 2). -/
theorem test_decodeTableWord :
    decodeTableWord 8 0x04 = some (.clear 0) ∧ decodeTableWord 8 0x12 = some .softReset
    ∧ decodeTableWord 8 0x44 = some (.ramXWindow 0 0) ∧ decodeTableWord 8 0x26 = some (.writeRamNew [0])
    ∧ decodeTableWord 8 0x10 = some (.deepSleepFrame []) ∧ decodeTableWord 8 0x00 = none := by decide

/-- The words of the table run as the first step after reset: `clear` is taken from the host, the frames 0x12, 0x26 and
0x32 are the ones the operation in flight sends (log 2). -/
theorem test_withFetchWord :
    step (State.reset.withFetchWord 8 0x04) = exec (.clear 0) { (State.reset.withFetchWord 8 0x04) with requests := [] }
    ∧ step (State.reset.withFetchWord 8 0x12) = exec .softReset (State.reset.withFetchWord 8 0x12)
    ∧ step (State.reset.withFetchWord 8 0x26) = exec (.writeRamNew [0]) (State.reset.withFetchWord 8 0x26)
    ∧ (State.reset.withFetchWord 8 0x32).sending = some (.writeLut (List.replicate 105 0), 0)
    ∧ step (State.reset.withFetchWord 8 0x0A) = .refused .unknownOperation := ⟨rfl, rfl, rfl, rfl, rfl⟩

/-- R76: the operations that stand for the table's frame words send every one of the nineteen opcodes. -/
theorem test_framePlace : ∀ op ∈ opcodes, (framePlace op).isSome = true := by decide

/-- R78, R250: a frame that no operation is sending has no step; nor has one with a payload the operation does not give it. -/
theorem test_frame_outside_operation :
    exec .masterTrigger (ready [.ok] []) = .refused .frameOutsideOperation
    ∧ exec .softReset (inFlight (.hardwareInit false) 5 (ready [] [])) = .refused .frameOutsideOperation
    ∧ exec (.deepSleepFrame [0x01]) (inFlight .deepSleep 1 (ready [] [])) = .refused .frameOutsideOperation
    ∧ exec .masterTrigger (inFlight .masterTrigger 0 (ready [] [])) = .refused .frameOutsideOperation :=
  ⟨rfl, rfl, rfl, rfl⟩

/-- R251, R335: SOFT_RESET inside `hardwareInit`, its two events and the busy sample after them. -/
theorem test_softReset_waits :
    softResetActs tiny = [.setLine .dc .low, .xfer [0x12], .sampleBusy, .pollDelay 10]
    ∧ exec .softReset (inFlight (.hardwareInit false) 8 (ready [.ok] [])) = .next
      { inFlight (.hardwareInit false) 9 (ready [] []) with trace := [.xfer [0x12]], outcomeCount := 1 }
    ∧ exec .softReset (inFlight (.hardwareInit false) 9 (ready [] [.high])) = .next
      { inFlight (.hardwareInit false) 10 (ready [] []) with trace := [.sampleBusy .high], sampleCount := 1 } :=
  ⟨by decide, rfl, rfl⟩

/-- R72, R77: the numeric codes of results and formats. -/
theorem test_codes :
    resultCode .ok = 0 ∧ resultCode .invalidState = 1 ∧ resultCode .invalidArgument = 2 ∧ resultCode .busError = 3
    ∧ PixelFormat.code .rgb565 = 0 ∧ PixelFormat.code .l8 = 1 ∧ PixelFormat.code .bgr888 = 2
    ∧ PixelFormat.code .bgra8888 = 3 := by decide

/-- R80: its own example, with the buffer B1 written as its bytes, and the frame form. -/
theorem test_text :
    instrText (.drawRegion 13 5 (some [0xFA, 0xFD]) 8 2 true)
      = "drawRegion x=13, y=5, packedBits=[FA FD], widthBits=8, heightRows=2, deferRefresh=1"
    ∧ instrText (.ramXWindow 8 15) = "CMD 0x44 [08 00 0F 00]" := by decide

/-! ## Bus primitives -/

/-- V-PR-3, V-PR-4, V-PR-18: command frames, without and with payload, and at the other DC level. -/
theorem test_cmd :
    cmd tiny 0x20 [] = [.setLine .dc .low, .xfer [0x20]]
    ∧ cmd tiny 0x04 [1, 2, 3] = [.setLine .dc .low, .xfer [0x04], .setLine .dc .high, .xfer [1, 2, 3]]
    ∧ send { tiny with dcCmdLevel := .high } .command [0x12] = [.setLine .dc .high, .xfer [0x12]] := by decide

/-- V-PR-9 and the corner cases of R103: a full chunk, one byte more, and 105 bytes in chunks of 64. -/
theorem test_chunks :
    (chunks 64 (List.replicate 105 0)).map List.length = [64, 41]
    ∧ (chunks 64 (List.replicate 64 0)).map List.length = [64]
    ∧ (chunks 64 (List.replicate 65 0)).map List.length = [64, 1] ∧ chunks 64 [7] = [[7]] := by decide

/-- V-PR-15: the window of the last byte column and the last row. -/
theorem test_window :
    windowTrace Params.reference 472 479 799 799 =
      [.setLine .dc .low, .xfer [0x44], .setLine .dc .high, .xfer [0xD8, 0x01, 0xDF, 0x01],
       .setLine .dc .low, .xfer [0x45], .setLine .dc .high, .xfer [0x1F, 0x03, 0x1F, 0x03],
       .setLine .dc .low, .xfer [0x4E], .setLine .dc .high, .xfer [0xD8, 0x01],
       .setLine .dc .low, .xfer [0x4F], .setLine .dc .high, .xfer [0x1F, 0x03]] := by decide

/-! ## Steps, one at a time -/

/-- V-LC-1, its last event: `AcquireBus(1, 10000000)`, then Ready, the bus held. -/
theorem test_init_acquires :
    exec initRequest (inFlight initRequest 3 (fresh [.ok] [])) = .next { fresh [] [] with
      cur := some initRequest, pc := .step 4, drv := .ready, busHeld := true, cfg := some ⟨1, 10, 11, 12, 13, 0⟩
      trace := [.acquireBus 1 10000000], outcomeCount := 1 } := rfl

/-- V-LC-7: the acquisition fails with cause 9. -/
theorem test_init_acquisition_fails :
    exec initRequest (inFlight initRequest 3 (fresh [.fail 9] [])) = .next { fresh [] [] with
      trace := [.acquireBus 1 10000000], outcomeCount := 1, responses := [⟨.busError, .cause 9⟩] } := rfl

/-- V-LC-9: `deinit` from Ready. -/
theorem test_deinit_releases :
    exec .deinit (inFlight .deinit 1 (ready [] [])) = .next { fresh [] [] with
      cur := some .deinit, pc := .step 2, trace := [.releaseBus], dcLvl := .driven .high, rstLvl := .driven .high } := rfl

/-- V-LC-13: `deepSleep` before `init`. -/
theorem test_deepSleep_before_init :
    exec .deepSleep (inFlight .deepSleep 0 (fresh [] [])) = .next { fresh [] [] with responses := [⟨.invalidState, .none⟩] } :=
  rfl

/-- V-LC-14: the events of `deepSleep`. -/
theorem test_deepSleep_script :
    deepSleepScript tiny = [.requireReady, .setLine .dc .low, .xfer [0x10], .setLine .dc .high, .xfer [0x03]] := by decide

/-- V-PR-11: a sample that reads 1 is followed by the delay, which leads back to the sample; one that reads 0 ends the
wait. -/
theorem test_busy_wait :
    exec (.hardwareInit false) (inFlight (.hardwareInit false) 5 (ready [] [.high])) = .next
      { inFlight (.hardwareInit false) 6 (ready [] []) with trace := [.sampleBusy .high], sampleCount := 1 }
    ∧ exec (.hardwareInit false) (inFlight (.hardwareInit false) 6 (ready [] [])) = .next
      { inFlight (.hardwareInit false) 5 (ready [] []) with trace := [.delay 10] }
    ∧ exec (.hardwareInit false) (inFlight (.hardwareInit false) 5 (ready [] [.low])) = .next
      { inFlight (.hardwareInit false) 7 (ready [] []) with trace := [.sampleBusy .low], sampleCount := 1 } := ⟨rfl, rfl, rfl⟩

/-- R140, R141: the commands of `hardwareInit`, in order, and its three waits (V-BR-1). -/
theorem test_hardwareInit_commands :
    (hardwareInitScript tiny).filterMap (fun a => match a with | .xfer [b] => some b | .sampleBusy => some 0 | _ => none)
      = [0, 0x12, 0, 0x01, 0x0C, 0x11, 0x01, 0x44, 0x45, 0x4E, 0x4F, 0x3C, 0x05, 0x18, 0x80, 0x22, 0xF8, 0x20, 0] := by
  decide

/-- V-SRC-7, on the small panel: `clear` fills plane 0x24, then the full refresh with table `WF_DEFAULT` and 0xC7. -/
theorem test_clear_commands :
    traceFrames .low (clearTrace tiny 0xFF 0 0) =
      [⟨[0x44], [0, 0, 7, 0]⟩, ⟨[0x45], [0, 0, 1, 0]⟩, ⟨[0x4E], [0, 0]⟩, ⟨[0x4F], [0, 0]⟩, ⟨[0x24], [0xFF, 0xFF]⟩,
       ⟨[0x32], (List.range 105).map (BitVec.ofNat 8)⟩, ⟨[0x03], [105]⟩, ⟨[0x04], [106, 107, 108]⟩, ⟨[0x2C], [109]⟩,
       ⟨[0x22], [0xC7]⟩, ⟨[0x20], []⟩] := by decide

/-- R163, R164: `loadBaseMap` with `fastMode` writes both planes, then refreshes with `WF_FAST` and 0xFF. -/
theorem test_loadBaseMap_commands :
    (traceFrames .low (baseMapTrace tiny [1, 2] true 0 0)).map (fun f => (f.command, f.payload.take 3)) =
      [([0x44], [0, 0, 7]), ([0x45], [0, 0, 1]), ([0x4E], [0, 0]), ([0x4F], [0, 0]), ([0x24], [1, 2]), ([0x26], [1, 2]),
       ([0x32], [128, 129, 130]), ([0x03], [233]), ([0x04], [234, 235, 236]), ([0x2C], [237]), ([0x22], [0xFF]),
       ([0x20], [])] := by decide

/-- V-PW-1: the script of a deferred `drawRegion` on the reference panel. -/
theorem test_drawRegion_script :
    drawRegionScript Params.reference 13 5 (some [0xFA, 0xFD]) 8 2 true =
      [.requireReady, .requireArg true, .requireArg true, .requireArg true, .requireArg true, .requireWindow true,
       .setLine .rst .low, .delay 10, .setLine .rst .high, .delay 10,
       .setLine .dc .low, .xfer [0x44], .setLine .dc .high, .xfer [0x08, 0x00, 0x0F, 0x00],
       .setLine .dc .low, .xfer [0x45], .setLine .dc .high, .xfer [0x05, 0x00, 0x06, 0x00],
       .setLine .dc .low, .xfer [0x4E], .setLine .dc .high, .xfer [0x08, 0x00],
       .setLine .dc .low, .xfer [0x4F], .setLine .dc .high, .xfer [0x05, 0x00],
       .setLine .dc .low, .xfer [0x24], .setLine .dc .high, .xfer [0xFA, 0xFD]] := by decide

/-- V-PW-4, V-PW-5, V-PW-6, V-PW-15, V-PW-17: which windows lie in the reference panel. -/
theorem test_drawRegion_window :
    windowInPanel Params.reference (drawWindow 473 799 8 1) = true
    ∧ windowInPanel Params.reference (drawWindow 480 0 8 1) = false
    ∧ windowInPanel Params.reference (drawWindow 0 799 8 2) = false
    ∧ windowInPanel Params.reference (drawWindow 0 0 488 1) = false
    ∧ drawWindow 7 0 8 1 = ⟨0, 0, 1, 8⟩
    ∧ exec (.drawRegion 8 0 (some [0]) 8 1 true) (inFlight (.drawRegion 8 0 (some [0]) 8 1 true) 5 (ready [] []))
      = .fault .windowOutOfRange := ⟨by decide, by decide, by decide, by decide, by decide, rfl⟩

/-- V-RT-4, V-RT-9: the data chunks and commands of `triggerRefresh`. -/
theorem test_triggerRefresh_script :
    (triggerRefreshScript tiny).filterMap (fun a => match a with | .xfer b => some (b.length, b.headD 0) | _ => none)
      = [(1, 0x32), (64, 128), (41, 192), (1, 0x03), (1, 233), (1, 0x04), (3, 234), (1, 0x2C), (1, 237), (1, 0x22),
         (1, 0xFF), (1, 0x20)] := by decide

/-! ## The packer -/

/-- The packer at the parameters of the vectors, mirrored or not. -/
def packed (mirror : Bool) (xs ys w h : U16) (f : PixelFormat) (src : List Byte) (thr : Byte) : Response :=
  packResponse { tiny with mirrorX := mirror } xs ys w h f (some src) (some thr)

/-- V-PK-2, V-PK-4, V-PK-5, V-PK-6, V-PK-8, V-PK-13, V-PK-14: windows, pads, mirroring, rows. -/
theorem test_pack_layout :
    packed true 0 0 8 1 .l8 [0, 0xFF, 0xFF, 0xFF, 0xFF, 0xFF, 0xFF, 0xFF] 128 = ⟨.ok, .packed ⟨0, 0, 1, 8⟩ [0xFE]⟩
    ∧ packed false 0 0 8 1 .l8 [0, 0xFF, 0xFF, 0xFF, 0xFF, 0xFF, 0xFF, 0xFF] 128 = ⟨.ok, .packed ⟨0, 0, 1, 8⟩ [0x7F]⟩
    ∧ packed true 13 0 5 1 .l8 [0, 0, 0, 0, 0] 128 = ⟨.ok, .packed ⟨8, 0, 1, 16⟩ [0xF8, 0x3F]⟩
    ∧ packed true 3 2 10 2 .l8 [0, 255, 0, 255, 0, 255, 0, 255, 0, 255, 0, 0, 0, 0, 0, 0, 0, 0, 0, 0] 128
      = ⟨.ok, .packed ⟨0, 2, 2, 16⟩ [0xF5, 0x57, 0xE0, 0x07]⟩
    ∧ packed true 13 5 3 2 .l8 [0x00, 0xFF, 0x7F, 0x80, 0x00, 0xFF] 128 = ⟨.ok, .packed ⟨8, 5, 2, 8⟩ [0xFA, 0xFD]⟩
    ∧ packed false 0 0 16 1 .l8 ([0, 0, 0] ++ List.replicate 13 0xFF) 128 = ⟨.ok, .packed ⟨0, 0, 1, 16⟩ [0x1F, 0xFF]⟩
    ∧ packed true 0 0 8 2 .l8 ([0] ++ List.replicate 14 0xFF ++ [0]) 128 = ⟨.ok, .packed ⟨0, 0, 2, 8⟩ [0xFE, 0x7F]⟩
    ∧ packed true 5 0 3 1 .l8 [0, 0, 0] 128 = ⟨.ok, .packed ⟨0, 0, 1, 8⟩ [0xF8]⟩ := by decide

/-- V-PK-1, V-PK-3, V-PK-9, V-PK-10, V-PK-11, V-PK-12: classification, formats, thresholds, errors. -/
theorem test_pack_pixels :
    packed true 0 0 1 1 .l8 [0x80] 128 = ⟨.ok, .packed ⟨0, 0, 1, 8⟩ [0xFF]⟩
    ∧ packed true 0 0 1 1 .bgr888 [0x88, 0x7F, 0x7F] 128 = ⟨.ok, .packed ⟨0, 0, 1, 8⟩ [0x7F]⟩
    ∧ packed true 0 0 1 1 .rgb565 [0xEF, 0x7B] 128 = ⟨.ok, .packed ⟨0, 0, 1, 8⟩ [0x7F]⟩
    ∧ packed true 0 0 1 1 .rgb565 [0xE0, 0x07] 128 = ⟨.ok, .packed ⟨0, 0, 1, 8⟩ [0xFF]⟩
    ∧ packed true 0 0 1 1 .bgra8888 [0xFF, 0xFF, 0xFF, 0x00] 128 = ⟨.ok, .packed ⟨0, 0, 1, 8⟩ [0xFF]⟩
    ∧ packed true 0 0 8 1 .l8 [0xFF, 0xFE, 0xFF, 0xFF, 0xFF, 0xFF, 0xFF, 0xFF] 255 = ⟨.ok, .packed ⟨0, 0, 1, 8⟩ [0xFD]⟩
    ∧ packed true 0 0 8 1 .l8 (List.replicate 8 0) 0 = ⟨.ok, .packed ⟨0, 0, 1, 8⟩ [0xFF]⟩
    ∧ rgb565Channels (rgb565Word false 0x84 0x10) = (16, 16, 33)
    ∧ rgb565Channels (rgb565Word true 0x84 0x10) = (132, 130, 132)
    ∧ packed true 13 5 3 2 .l8 [0, 0xFF, 0x7F, 0x80, 0] 128 = ⟨.invalidArgument, .none⟩
    ∧ packed true 0 0 0 1 .l8 [0] 128 = ⟨.invalidArgument, .none⟩
    ∧ packed true 0 0 2 1 .rgb565 [0, 0, 0] 128 = ⟨.invalidArgument, .none⟩
    ∧ packResponse tiny 0 0 1 1 .l8 none none = ⟨.invalidArgument, .none⟩
    ∧ packResponse tiny 0 0 1 1 .l8 (some [0x7F]) none = ⟨.ok, .packed ⟨0, 0, 1, 8⟩ [0x7F]⟩ := by decide

/-! ## Witnesses: the hypotheses of each obligation, met together at boundary values -/

theorem witness_HostopDecodesFromItsEncoding :
    Instr.isFrame (.pack 0xFFFF 0 0 1 .bgra8888 none none) = false
    ∧ decode tiny (.hostop 0x09 [.u16 0, .u16 0, .u16 1, .u16 1, .u8 3, .buf none])
      = .ok (.pack 0 0 1 1 .bgra8888 none none) := by decide

theorem witness_FrameDecodesFromItsEncoding :
    configOk tiny = true ∧ Instr.isFrame (.ramXWindow 0 7) = true ∧ WellFormed tiny (.ramXWindow 0 7) = true
    ∧ decode tiny (.cmdframe 0x4F [0xFF, 0xFF]) = .ok (.ramYCounter 0xFFFF) := by decide

theorem witness_UnknownCodesAreRefused :
    ((0x00 : Byte).toNat = 0 ∧ 10 ≤ (0x0A : Byte).toNat ∧ 10 ≤ (0xFF : Byte).toNat)
    ∧ (4 ≤ (0x04 : Byte).toNat ∧ 4 ≤ (0xFF : Byte).toNat)
    ∧ ((0x00 : Byte) ∉ opcodes ∧ (0x13 : Byte) ∉ opcodes ∧ (0xFF : Byte) ∉ opcodes) := by decide

/-- The first pieces of a `loadBaseMap` of two bytes: its checks and the four frames of the full window. -/
def mapStart : List Piece := .own [.requireReady, .requireArg true] :: setFullWindow tiny

/-- Where `loadBaseMap` is about to write plane 0x26, the second one. -/
def atPlane26 : State :=
  inFlight (.loadBaseMap (some [1, 2]) false) (flatten tiny (mapStart ++ [.frame (.writeRamOld [1, 2])])).length (ready oks [])

theorem witness_FrameIsReadBackFromItsTrace :
    configOk atPlane26.params = true ∧ WellFormed atPlane26.params (.writeRamNew [1, 2]) = true
    ∧ encode (.writeRamNew [1, 2]) = .cmdframe 0x26 [1, 2]
    ∧ pieces atPlane26.params (.loadBaseMap (some [1, 2]) false)
      = (mapStart ++ [.frame (.writeRamOld [1, 2])]) ++ .frame (.writeRamNew [1, 2]) :: fullTrigger tiny
    ∧ atPlane26.At (.loadBaseMap (some [1, 2]) false)
      (flatten atPlane26.params (mapStart ++ [.frame (.writeRamOld [1, 2])])).length
    ∧ Supplies atPlane26 (frameTrace atPlane26.params 0x26 [1, 2]) :=
  ⟨by decide, by decide, rfl, by decide, ⟨rfl, rfl⟩, by decide⟩

/-- A consistent state in the middle of an operation: `deepSleep` about to send its opcode. -/
theorem inFlight_deepSleep_consistent : Consistent (inFlight .deepSleep 2 (ready oks [])) where
  curPc := by decide
  operation := by rintro i h; cases h; rfl
  checks := by
    rintro i k j a ⟨hi, hk⟩ hj ha
    cases hi; cases hk
    match j with
    | 0 => cases ha; rfl
    | 1 => cases ha; trivial
  held := by decide
  configured := by decide
  validLines := by rintro c h; cases h; decide
  driven := by decide
  initDriven := by rintro _ _ _ _ _ _ _ ⟨h, -⟩; cases h
  transactions := by intro b h; cases h

/-- A step that sends an opcode; and the premise `OperationTrace`, for each of the six operations that send frames; waits of
no sample at 1, and of two. -/
theorem witness_OperationFramesAreWellFormed :
    (Consistent (inFlight .deepSleep 2 (ready oks []))
      ∧ step (inFlight .deepSleep 2 (ready oks [])) = .next
        { inFlight .deepSleep 3 (ready oks.tail []) with trace := [.xfer [0x10]], outcomeCount := 1 })
    ∧ (configOk (ready oks [.low]).params = true ∧ (ready oks [.low]).Idle ∧ (ready oks [.low]).drv = .ready)
    ∧ OperationTrace tiny (.hardwareInit true) (hardwareInitTrace tiny 0 2 0)
    ∧ OperationTrace tiny (.clear 0xFF) (clearTrace tiny 0xFF 0 2)
    ∧ OperationTrace tiny (.loadBaseMap (some [1, 2]) false) (baseMapTrace tiny [1, 2] false 0 0)
    ∧ OperationTrace tiny (.drawRegion 7 1 (some [1]) 8 1 false) (drawTrace tiny 7 1 [1] 8 1 false 0 0)
    ∧ OperationTrace tiny .triggerRefresh (partialTriggerTrace tiny 0 0)
    ∧ OperationTrace tiny .deepSleep (frameTrace tiny 0x10 [0x03])
    ∧ Supplies (ready oks [.low, .high, .high, .low, .low]) (hardwareInitTrace tiny 0 2 0)
    ∧ Supplies (ready oks [.low, .high, .high, .low]) (clearTrace tiny 0xFF 0 2)
    ∧ Supplies (ready oks [.low, .low]) (drawTrace tiny 7 1 [1] 8 1 false 0 0) :=
  ⟨⟨inFlight_deepSleep_consistent, rfl⟩, ⟨by decide, ⟨rfl, rfl⟩, rfl⟩, ⟨0, 2, 0, rfl⟩, ⟨0, 2, rfl⟩, ⟨by decide, 0, 0, rfl⟩,
    ⟨by unfold DrawAccepted; decide, 0, 0, rfl⟩, ⟨0, 0, rfl⟩, rfl, by decide, by decide, by decide⟩

/-- An idle block with one request waiting. -/
def waiting (q : HostRequest) : State := { fresh [] [] with requests := [q] }

theorem witness_StepRunsDecodedRequest :
    configOk (waiting ⟨0x04, [.u8 0xFF]⟩).params = true ∧ (waiting ⟨0x04, [.u8 0xFF]⟩).cur = none
    ∧ (waiting ⟨0x04, [.u8 0xFF]⟩).requests = [⟨0x04, [.u8 0xFF]⟩]
    ∧ decode tiny (.hostop 0x04 [.u8 0xFF]) = .ok (.clear 0xFF) := by decide

theorem witness_StepContinuesRequestInFlight :
    configOk (inFlight .deinit 1 (waiting ⟨0x02, []⟩)).params = true
    ∧ (inFlight .deinit 1 (waiting ⟨0x02, []⟩)).cur = some .deinit
    ∧ (∀ args later, (inFlight .deinit 1 (waiting ⟨0x02, []⟩)).requests ≠ ⟨0x09, args⟩ :: later)
    ∧ (inFlight .deepSleep 4 (waiting ⟨0x02, []⟩)).pc = .step 4
    ∧ frameOf tiny .deepSleep 4 = some (.deepSleepFrame [0x03], 3) :=
  ⟨by decide, rfl, by intro args later h; exact absurd (congrArg List.head? h) (by simp [inFlight, waiting]), rfl, by decide⟩

/-- A `pack` request of one L8 pixel. -/
def packArgs : List Arg := [.u16 0, .u16 0, .u16 1, .u16 1, .u8 1, .buf (some [0]), .u8 128]

/-- A `deinit` in flight, a `pack` waiting, the next choice given. -/
def besides (a : Agent) : State := { inFlight .deinit 1 (waiting ⟨0x09, packArgs⟩) with turns := [a] }

theorem witness_PackIsServedBesideTheSequencer :
    configOk tiny = true ∧ (besides .packer).cur = some .deinit ∧ (besides .sequencer).cur = some .deinit
    ∧ (besides .packer).requests = [⟨0x09, packArgs⟩] ∧ (besides .sequencer).requests = [⟨0x09, packArgs⟩]
    ∧ decode tiny (.hostop 0x09 packArgs) = .ok (.pack 0 0 1 1 .l8 (some [0]) (some 128))
    ∧ (besides .packer).turn = .packer ∧ (besides .sequencer).turn = .sequencer := by decide

theorem witness_EndedRunRests : configOk State.reset.params = true ∧ State.reset.Ended := ⟨by decide, rfl, rfl⟩

theorem witness_RefusalsEndTheRun :
    (configOk (waiting ⟨0x0A, []⟩).params = true ∧ (waiting ⟨0x0A, []⟩).cur = none
      ∧ (waiting ⟨0x0A, []⟩).requests = [⟨0x0A, []⟩])
    ∧ (waiting ⟨0x09, [.u16 0, .u16 0, .u16 1, .u16 1, .u8 4, .buf none]⟩).requests = [⟨0x09, [.u16 0, .u16 0, .u16 1, .u16 1, .u8 4, .buf none]⟩]
    ∧ (waiting ⟨0x09, [.u16 0, .u16 0, .u16 1, .u16 1, .u8 4, .buf none, .u8 0]⟩).requests = [⟨0x09, [.u16 0, .u16 0, .u16 1, .u16 1, .u8 4, .buf none, .u8 0]⟩]
    ∧ ((besides .packer).cur = some .deinit ∧ (besides .packer).turn = .packer)
    ∧ configOk { tiny with w := 12 } = false := by decide

theorem witness_IdleBlockAcceptsRequest :
    isOperation .triggerRefresh = true ∧ isOperation .masterTrigger = false ∧ isOperation (.pack 0 0 0 0 .l8 none none) = false
    ∧ (fresh [] []).Idle := ⟨rfl, rfl, rfl, rfl, rfl⟩

/-- A second operation; a frame with nothing in flight, with an idle pointer, before its own place and past it. -/
theorem witness_SecondRequestHasNoStep :
    isOperation .deinit = true ∧ (inFlight .triggerRefresh 0 (ready [] [])).At .triggerRefresh 0
    ∧ Instr.deinit ≠ .triggerRefresh ∧ Instr.isFrame (.deepSleepFrame [0x03]) = true
    ∧ (ready [] []).cur = none ∧ (ready [] []).pc = .idle
    ∧ ((inFlight .deepSleep 0 (ready [] [])).At .deepSleep 0
      ∧ ∀ j, frameOf (inFlight .deepSleep 0 (ready [] [])).params .deepSleep 0 ≠ some (.deepSleepFrame [0x03], j))
    ∧ ((inFlight .deepSleep 5 (ready [] [])).At .deepSleep 5
      ∧ ∀ j, frameOf (inFlight .deepSleep 5 (ready [] [])).params .deepSleep 5 ≠ some (.deepSleepFrame [0x03], j)) :=
  ⟨rfl, ⟨rfl, rfl⟩, by decide, rfl, rfl, rfl, ⟨⟨rfl, rfl⟩, by intro j h; cases h⟩, ⟨⟨rfl, rfl⟩, by intro j h; cases h⟩⟩

/-- The state after the step that releases the bus. -/
def releasedState : State :=
  { fresh [] [] with
    cur := some .deinit, pc := .step 2, trace := [.releaseBus], dcLvl := .driven .high, rstLvl := .driven .high }

/-- The state after the step that acquires the bus. -/
def acquiredState : State :=
  { fresh [] [] with
    cur := some initRequest, pc := .step 4, drv := .ready, busHeld := true, cfg := some ⟨1, 10, 11, 12, 13, 0⟩
    trace := [.acquireBus 1 10000000], outcomeCount := 1 }

/-- `step s = next t` for a step that adds an event, one that adds a response and one that adds neither. -/
theorem witness_StepAddsAtMostOneEvent :
    step (inFlight .deinit 1 (ready [] [])) = .next releasedState
    ∧ step (inFlight .deinit 2 (fresh [] [])) = .next { fresh [] [] with responses := [⟨.ok, .none⟩] }
    ∧ step State.reset = .next State.reset := ⟨rfl, rfl, rfl⟩

theorem witness_ResetLeavesTheseValues : State.reset.cur = none ∧ (inFlight .deinit 1 (ready [] [])).cur ≠ none := by decide

/-- In the middle of an operation, and at rest. -/
theorem witness_StepKeepsConsistent :
    (Consistent (inFlight .deepSleep 2 (ready oks []))
      ∧ step (inFlight .deepSleep 2 (ready oks [])) = .next
        { inFlight .deepSleep 3 (ready oks.tail []) with trace := [.xfer [0x10]], outcomeCount := 1 })
    ∧ Consistent (ready [] []) ∧ step (ready [] []) = .next (ready [] []) := by
  refine ⟨⟨inFlight_deepSleep_consistent, rfl⟩, ⟨by decide, ?_, ?_, by decide, by decide, ?_, by decide, ?_, ?_⟩, rfl⟩
  · intro i h; cases h
  · intro _ _ _ _ h; cases h.1
  · rintro c h; cases h; decide
  · intro _ _ _ _ _ _ _ h; cases h.1
  · intro b h; cases h

theorem witness_StepKeepsBusDisciplined :
    BusDisciplined (ready [] []) ∧ step (ready [] []) = .next (ready [] []) := by
  refine ⟨⟨?_, ?_⟩, rfl⟩
  · intro before bytes after h; cases before <;> cases h
  · intro _ _ _ h; cases h.1

/-- The step that writes Ready, the step that writes Uninitialized, and a step that ends with an error. -/
theorem witness_DriverStateIsWrittenOnlyByInitAndDeinit :
    step (inFlight initRequest 3 (fresh [.ok] [])) = .next acquiredState
    ∧ step (inFlight .deinit 1 (ready [] [])) = .next releasedState
    ∧ step (inFlight .deepSleep 0 (fresh [] [])) = .next { fresh [] [] with responses := [⟨.invalidState, .none⟩] } :=
  ⟨rfl, rfl, rfl⟩

theorem witness_BusIsHeldFromAcquireToRelease :
    step (inFlight initRequest 3 (fresh [.ok] [])) = .next acquiredState
    ∧ (inFlight initRequest 3 (fresh [.ok] [])).busHeld = false
    ∧ step (inFlight .deinit 1 (ready [] [])) = .next releasedState ∧ (inFlight .deinit 1 (ready [] [])).busHeld = true
    ∧ ((ready [] []).busHeld = true ↔ (ready [] []).drv = .ready) := ⟨rfl, rfl, rfl, rfl, by decide⟩

theorem witness_ConfigurationIsNeverWritten : step (inFlight initRequest 3 (fresh [.ok] [])) = .next acquiredState := rfl

theorem witness_PanelConfigIsWrittenOnlyByInitAndDeinit :
    step (inFlight initRequest 3 (fresh [.ok] [])) = .next acquiredState
    ∧ step (inFlight .deinit 1 (ready [] [])) = .next releasedState := ⟨rfl, rfl⟩

theorem witness_InstructionsWriteOnlyTheseRegisters :
    exec initRequest (inFlight initRequest 3 (fresh [.ok] [])) = .next acquiredState
    ∧ exec .deinit (inFlight .deinit 1 (ready [] [])) = .next releasedState
    ∧ exec (.deepSleepFrame [0x03]) (inFlight .deepSleep 2 (ready oks [])) = .next
      { inFlight .deepSleep 3 (ready oks.tail []) with trace := [.xfer [0x10]], outcomeCount := 1 }
    ∧ exec (.hardwareInit true) (ready [] []) = .next (inFlight (.hardwareInit true) 0 (ready [] []))
    ∧ exec (.drawRegion 0 0 none 0 0 true) (ready [] []) = .next (inFlight (.drawRegion 0 0 none 0 0 true) 0 (ready [] []))
    ∧ exec (.pack 0 0 0 0 .l8 none none) (ready [] [])
      = .next { ready [] [] with responses := [⟨.invalidArgument, .none⟩] } := ⟨rfl, rfl, rfl, rfl, rfl, rfl⟩

theorem witness_OperationsBeforeInitGiveInvalidState :
    (fresh [] []).Idle ∧ (fresh [] []).drv = .uninitialized ∧ (ready [] []).Idle ∧ (ready [] []).drv = .ready :=
  ⟨⟨rfl, rfl⟩, rfl, ⟨rfl, rfl⟩, rfl⟩

/-- Ending with `BusError` at an `Xfer`, of an operation and of the frame it is sending, and at `AcquireBus`; with another
error; and with `Ok`. -/
theorem witness_ErrorsEndTheOperationPrecisely :
    exec .deepSleep (inFlight .deepSleep 2 (ready [.fail 9] [])) = .next { ready [] [] with
      trace := [.xfer [0x10]], outcomeCount := 1, responses := [⟨.busError, .cause 9⟩] }
    ∧ exec (.deepSleepFrame [0x03]) (inFlight .deepSleep 2 (ready [.fail 9] [])) = .next { ready [] [] with
      trace := [.xfer [0x10]], outcomeCount := 1, responses := [⟨.busError, .cause 9⟩] }
    ∧ exec initRequest (inFlight initRequest 3 (fresh [.fail 9] [])) = .next { fresh [] [] with
      trace := [.acquireBus 1 10000000], outcomeCount := 1, responses := [⟨.busError, .cause 9⟩] }
    ∧ exec .deepSleep (inFlight .deepSleep 0 (fresh [] [])) = .next { fresh [] [] with responses := [⟨.invalidState, .none⟩] }
    ∧ exec .deepSleep (inFlight .deepSleep 5 (ready [] [])) = .next { ready [] [] with responses := [⟨.ok, .none⟩] } :=
  ⟨rfl, rfl, rfl, rfl, rfl⟩

/-- V-LC-15: the opcode's transaction fails; and the payload's transaction fails. -/
theorem witness_FirstFailingTransactionEndsTheOperation :
    OperationTrace tiny .deepSleep ([.setLine .dc .low] ++ .xfer [0x10] :: [.setLine .dc .high, .xfer [0x03]])
    ∧ Supplies (ready [.fail 9] []) [.setLine .dc .low]
    ∧ ((ready [.fail 9] []).observeAll [.setLine .dc .low]).outcome = .fail 9
    ∧ OperationTrace tiny .deepSleep ([.setLine .dc .low, .xfer [0x10], .setLine .dc .high] ++ .xfer [0x03] :: [])
    ∧ Supplies (ready [.ok, .fail 9] []) [.setLine .dc .low, .xfer [0x10], .setLine .dc .high]
    ∧ ((ready [.ok, .fail 9] []).observeAll [.setLine .dc .low, .xfer [0x10], .setLine .dc .high]).outcome = .fail 9 := by
  refine ⟨?_, by decide, by decide, ?_, by decide, by decide⟩
  · unfold OperationTrace; decide
  · unfold OperationTrace; decide

theorem witness_BusyWaitNeverTimesOut :
    isOperation (.hardwareInit false) = true
    ∧ (inFlight (.hardwareInit false) 5 (ready [] [.high, .high])).At (.hardwareInit false) 5
    ∧ (script tiny (.hardwareInit false))[5]? = some .sampleBusy
    ∧ (script tiny (.hardwareInit false))[5 + 1]? = some (.pollDelay tiny.busyPollMs)
    ∧ Supplies (inFlight (.hardwareInit false) 5 (ready [] [.high, .high]))
      (List.replicate 2 [.sampleBusy .high, .delay tiny.busyPollMs]).flatten :=
  ⟨rfl, ⟨rfl, rfl⟩, by decide, by decide, by decide⟩

/-- V-LC-1 and V-LC-4: identifiers at both ends of the reference range. -/
theorem witness_InitSucceeds :
    (fresh [.ok] []).Idle ∧ (fresh [.ok] []).drv = .uninitialized
    ∧ (∀ l ∈ [(0 : LineId), 30, 12, 13], l ∈ (fresh [.ok] []).params.validLines) ∧ (fresh [.ok] []).outcome = .ok :=
  ⟨⟨rfl, rfl⟩, rfl, by decide, rfl⟩

/-- V-LC-3 and V-LC-6: 31 from reset, 200 while Ready. -/
theorem witness_InitWithInvalidLineGivesInvalidArgument :
    (fresh [] []).Idle ∧ (∃ l ∈ [(10 : LineId), 11, 31, 13], l ∉ (fresh [] []).params.validLines)
    ∧ (ready [] []).Idle ∧ (∃ l ∈ [(10 : LineId), 11, 12, 200], l ∉ (ready [] []).params.validLines) :=
  ⟨⟨rfl, rfl⟩, by decide, ⟨rfl, rfl⟩, by decide⟩

theorem witness_InitWhileReadyGivesInvalidState :
    (ready [] []).Idle ∧ (ready [] []).drv = .ready
    ∧ (∀ l ∈ [(10 : LineId), 11, 12, 13], l ∈ (ready [] []).params.validLines) := ⟨⟨rfl, rfl⟩, rfl, by decide⟩

theorem witness_InitAcquisitionFailureGivesBusError :
    (fresh [.fail 0] []).Idle ∧ (fresh [.fail 0] []).drv = .uninitialized
    ∧ (∀ l ∈ [(10 : LineId), 11, 12, 30], l ∈ (fresh [.fail 0] []).params.validLines)
    ∧ (fresh [.fail 0] []).outcome = .fail 0 := ⟨⟨rfl, rfl⟩, rfl, by decide, rfl⟩

theorem witness_DeinitReleasesTheBusAndIsIdempotent :
    (ready [] []).Idle ∧ (ready [] []).drv = .ready ∧ (fresh [] []).Idle ∧ (fresh [] []).drv = .uninitialized :=
  ⟨⟨rfl, rfl⟩, rfl, ⟨rfl, rfl⟩, rfl⟩

theorem witness_DeinitNeverFails :
    (fresh [] []).pc = .idle ∧ (inFlight .deinit 7 (ready [] [])).cur = some .deinit
    ∧ (fresh [] []).Idle ∧ (fresh [] []).drv = .uninitialized := ⟨rfl, rfl, ⟨rfl, rfl⟩, rfl⟩

theorem witness_DeepSleepSendsOneFrame :
    (ready oks []).Idle ∧ (ready oks []).drv = .ready
    ∧ Supplies (ready oks []) (frameTrace tiny 0x10 tiny.pDeepSleep) := ⟨⟨rfl, rfl⟩, rfl, by decide⟩

/-- V-BR-2: draws 1, 1, 0 at the first wait, then 0. -/
theorem witness_HardwareInitRunsTheBringUpSequence :
    (ready oks [.high, .high, .low, .low, .low]).Idle ∧ (ready oks [.high, .high, .low, .low, .low]).drv = .ready
    ∧ Supplies (ready oks [.high, .high, .low, .low, .low]) (hardwareInitTrace tiny 2 0 0) :=
  ⟨⟨rfl, rfl⟩, rfl, by decide⟩

theorem witness_FastModeHasNoEffectOnHardwareInit :
    (ready [] []).Idle
    ∧ execTimes 2 (.hardwareInit false) (ready [] []) = .next (inFlight (.hardwareInit false) 1 (ready [] [])) :=
  ⟨⟨rfl, rfl⟩, rfl⟩

theorem witness_ClearFillsTheFrameAndRefreshes :
    (ready oks [.low, .high, .low]).Idle ∧ (ready oks [.low, .high, .low]).drv = .ready
    ∧ Supplies (ready oks [.low, .high, .low]) (clearTrace tiny 0xFF 0 1) := ⟨⟨rfl, rfl⟩, rfl, by decide⟩

/-- The small panel's tables and literals at the reference geometry and transaction size. -/
def large : Params := { tiny with w := 480, h := 800, maxTxn := 4096 }

/-- A Ready block at the reference geometry. -/
def readyLarge : State := { ready oks [.low, .low] with params := large }

/-- The events of `clear` at the reference geometry, its waits reading 0 at once. -/
def largeClear (fill : Byte) : List Event :=
  fullWindowTrace large
    ++ [.setLine .dc large.dcCmdLevel, .xfer [0x24]]
    ++ (List.replicate 11 [Event.setLine .dc large.dcCmdLevel.other, .xfer (List.replicate 4096 fill)]).flatten
    ++ [.setLine .dc large.dcCmdLevel.other, .xfer (List.replicate 2944 fill)]
    ++ fullTriggerTrace large 0 0

theorem witness_ClearSendsTwelveChunksAtReference :
    readyLarge.Idle ∧ readyLarge.drv = .ready ∧ readyLarge.params.w = 480 ∧ readyLarge.params.h = 800
    ∧ readyLarge.params.maxTxn = 4096 ∧ Supplies readyLarge (largeClear 0xFF) := ⟨⟨rfl, rfl⟩, rfl, rfl, rfl, rfl, by decide +kernel⟩

theorem witness_LoadBaseMapWritesBothPlanes :
    (ready oks [.low, .low]).Idle ∧ (ready oks [.low, .low]).drv = .ready ∧ [(1 : Byte), 2].length = tiny.frameBytes
    ∧ Supplies (ready oks [.low, .low]) (baseMapTrace tiny [1, 2] true 0 0)
    ∧ Supplies (ready oks [.low, .low]) (baseMapTrace tiny [1, 2] false 0 0) :=
  ⟨⟨rfl, rfl⟩, rfl, by decide, by decide, by decide⟩

/-- A null buffer, and buffers one byte short and one byte long. -/
theorem witness_LoadBaseMapChecksItsBuffer :
    (ready [] []).Idle ∧ (ready [] []).drv = .ready
    ∧ (∀ img, (none : BufRef) = some img → img.length ≠ (ready [] []).params.frameBytes)
    ∧ (∀ img, some [(1 : Byte)] = some img → img.length ≠ (ready [] []).params.frameBytes)
    ∧ (∀ img, some [(1 : Byte), 2, 3] = some img → img.length ≠ (ready [] []).params.frameBytes) :=
  ⟨⟨rfl, rfl⟩, rfl, by simp, by intro img h; cases h; decide, by intro img h; cases h; decide⟩

theorem witness_TriggerRefreshRunsThePartialTrigger :
    (ready oks [.low, .low]).Idle ∧ (ready oks [.low, .low]).drv = .ready
    ∧ Supplies (ready oks [.low, .low]) (partialTriggerTrace tiny 0 0) := ⟨⟨rfl, rfl⟩, rfl, by decide⟩

/-- The offsets of R32 and 112 bytes in each table; the last byte of a table, and a part that ends with it. -/
theorem witness_TriggerRefreshRunsThePartialTrigger_tables :
    tiny.lutMainOff = 0 ∧ tiny.lutMainLen = 105 ∧ tiny.lutGateOff = 105 ∧ tiny.lutSourceOff = 106 ∧ tiny.lutVcomOff = 109
    ∧ tiny.wfDefault.length = 112 ∧ tiny.wfFast.length = 112 ∧ 111 < tiny.wfFast.length
    ∧ 109 + 3 ≤ tiny.wfFast.length := ⟨rfl, rfl, rfl, rfl, rfl, by decide, by decide, by decide, by decide⟩

/-- Tables that differ in their last byte alone, at a step that is about to send the LUT's first bytes. -/
theorem witness_UnnamedTableBytesAreNeverSent :
    tiny.lutMainOff = 0 ∧ tiny.lutMainLen = 105 ∧ tiny.lutGateOff = 105 ∧ tiny.lutSourceOff = 106 ∧ tiny.lutVcomOff = 109
    ∧ tiny.wfDefault.length = 112 ∧ (tiny.wfDefault.take 111 ++ [0x00]).length = 112
    ∧ tiny.wfFast.length = 112 ∧ (tiny.wfFast.take 111 ++ [0x00]).length = 112
    ∧ (tiny.wfDefault.take 111 ++ [0x00]).take 110 = tiny.wfDefault.take 110
    ∧ (tiny.wfFast.take 111 ++ [0x00]).take 110 = tiny.wfFast.take 110
    ∧ exec .triggerRefresh (inFlight .triggerRefresh 2 (ready oks [])) = .next
      { inFlight .triggerRefresh 3 (ready oks.tail []) with trace := [.xfer [0x32]], outcomeCount := 1 } :=
  ⟨rfl, rfl, rfl, rfl, rfl, by decide, by decide, by decide, by decide, by decide, by decide, rfl⟩

/-- A window that touches the last column and the last row, and the whole panel; deferred or not. -/
theorem witness_DrawRegionWritesItsWindow :
    (ready oks [.low, .low]).Idle ∧ (ready oks [.low, .low]).drv = .ready
    ∧ DrawAccepted tiny 7 1 [0xFF] 8 1 ∧ Supplies (ready oks [.low, .low]) (drawTrace tiny 7 1 [0xFF] 8 1 false 0 0)
    ∧ DrawAccepted tiny 0 0 [1, 2] 8 2 ∧ Supplies (ready oks []) (drawTrace tiny 0 0 [1, 2] 8 2 true 0 0) :=
  ⟨⟨rfl, rfl⟩, rfl, by unfold DrawAccepted; decide, by decide, by unfold DrawAccepted; decide, by decide⟩

/-- V-PW-7 … V-PW-12: each of the checks. -/
theorem witness_DrawRegionChecksItsArguments :
    (ready [] []).Idle ∧ (ready [] []).drv = .ready ∧ (none : BufRef) = none ∧ (0 : U16).toNat = 0
    ∧ (12 : U16).toNat % 8 ≠ 0
    ∧ (∃ img, some [(0xFA : Byte)] = some img ∧ img.length ≠ (2 : U16).toNat * (8 : U16).toNat / 8)
    ∧ (∃ img, some [(0xFA : Byte), 0xFD, 0] = some img ∧ img.length ≠ (2 : U16).toNat * (8 : U16).toNat / 8) :=
  ⟨⟨rfl, rfl⟩, rfl, rfl, rfl, by decide, ⟨_, rfl, by decide⟩, ⟨_, rfl, by decide⟩⟩

/-- One column too far, and one row too far. -/
theorem witness_WindowOutsideThePanelFaults :
    (ready [] []).Idle ∧ (ready [] []).drv = .ready ∧ (8 : U16).toNat ≠ 0 ∧ (1 : U16).toNat ≠ 0 ∧ (8 : U16).toNat % 8 = 0
    ∧ [(0 : Byte)].length = (1 : U16).toNat * (8 : U16).toNat / 8
    ∧ tiny.w ≤ (8 : U16).toNat - (8 : U16).toNat % 8 + (8 : U16).toNat - 1
    ∧ tiny.h ≤ (2 : U16).toNat + (1 : U16).toNat - 1 :=
  ⟨⟨rfl, rfl⟩, rfl, by decide, by decide, by decide, by decide, by decide, by decide⟩

theorem witness_BatchLoadsOneLutAndTriggersOnce :
    configOk (ready oks [.low, .high, .low]).params = true ∧ (ready oks [.low, .high, .low]).Idle
    ∧ (ready oks [.low, .high, .low]).drv = .ready
    ∧ OperationTrace tiny (.drawRegion 0 0 (some [1]) 8 1 true) (drawTrace tiny 0 0 [1] 8 1 true 0 0)
    ∧ OperationTrace tiny (.drawRegion 0 1 (some [2]) 8 1 true) (drawTrace tiny 0 1 [2] 8 1 true 0 0)
    ∧ OperationTrace tiny .triggerRefresh (partialTriggerTrace tiny 0 1)
    ∧ Supplies (ready oks [.low, .high, .low])
      (drawTrace tiny 0 0 [1] 8 1 true 0 0 ++ drawTrace tiny 0 1 [2] 8 1 true 0 0 ++ partialTriggerTrace tiny 0 1) :=
  ⟨by decide, ⟨rfl, rfl⟩, rfl, ⟨by unfold DrawAccepted; decide, 0, 0, rfl⟩, ⟨by unfold DrawAccepted; decide, 0, 0, rfl⟩,
    ⟨0, 1, rfl⟩, by decide +kernel⟩

/-- The smallest `MAX_TXN`, and the last chunk of a payload. -/
theorem witness_StreamChunksThePayload :
    1 ≤ 1 ∧ [(7 : Byte)] ∈ (chunks 1 [7, 8]).dropLast ∧ (chunks 1 [7, 8]).getLast? = some [8] := by decide

/-- The premises of `CompletesAsFrame` for frame `i` of operation `q`, whose pieces before and after it are given. -/
def FrameMet (q i : Instr) (before after : List Piece) (levels : List Level) (tr : List Event) : Prop :=
  pieces tiny q = before ++ .frame i :: after
  ∧ (inFlight q (flatten tiny before).length (ready oks levels)).At q (flatten tiny before).length
  ∧ Supplies (inFlight q (flatten tiny before).length (ready oks levels)) tr

/-- The pieces of `hardwareInit` on the small panel up to and from a given one. -/
def bringUp (k : Nat) : List Piece × List Piece := ((hardwareInitPieces tiny).take k, (hardwareInitPieces tiny).drop (k + 1))

/-- A wait of no sample at 1, and of one. -/
theorem witness_BareFramesComplete :
    FrameMet (.hardwareInit true) .softReset (bringUp 2).1 (bringUp 2).2 [.low] (frameTrace tiny 0x12 [] ++ waitTrace tiny 0)
    ∧ FrameMet (.hardwareInit true) .masterTrigger (bringUp 13).1 (bringUp 13).2 [.high, .low]
      (frameTrace tiny 0x20 [] ++ waitTrace tiny 1) :=
  ⟨⟨by decide, ⟨rfl, rfl⟩, by decide⟩, ⟨by decide, ⟨rfl, rfl⟩, by decide⟩⟩

theorem witness_CoordinateFramesComplete :
    FrameMet (.hardwareInit true) (.ramXWindow 0 7) (bringUp 6).1 (bringUp 6).2 [] (frameTrace tiny 0x44 [0, 0, 7, 0] ++ [])
    ∧ FrameMet (.hardwareInit true) (.ramYWindow 0 1) (bringUp 7).1 (bringUp 7).2 [] (frameTrace tiny 0x45 [0, 0, 1, 0] ++ [])
    ∧ FrameMet (.hardwareInit true) (.ramXCounter 0) (bringUp 8).1 (bringUp 8).2 [] (frameTrace tiny 0x4E [0, 0] ++ [])
    ∧ FrameMet (.hardwareInit true) (.ramYCounter 0) (bringUp 9).1 (bringUp 9).2 [] (frameTrace tiny 0x4F [0, 0] ++ [])
    ∧ FrameMet (.hardwareInit true) (.driverOutputControl 1 [2]) (bringUp 3).1 (bringUp 3).2 []
      (frameTrace tiny 0x01 [1, 0, 2] ++ []) :=
  ⟨⟨by decide, ⟨rfl, rfl⟩, by decide⟩, ⟨by decide, ⟨rfl, rfl⟩, by decide⟩, ⟨by decide, ⟨rfl, rfl⟩, by decide⟩,
    ⟨by decide, ⟨rfl, rfl⟩, by decide⟩, ⟨by decide, ⟨rfl, rfl⟩, by decide⟩⟩

theorem witness_LiteralFramesComplete :
    FrameMet (.hardwareInit true) (.boosterSoftStart [0xAE, 0xC7]) (bringUp 4).1 (bringUp 4).2 []
      (frameTrace tiny 0x0C [0xAE, 0xC7] ++ [])
    ∧ FrameMet (.hardwareInit true) (.dataEntryMode [1]) (bringUp 5).1 (bringUp 5).2 [] (frameTrace tiny 0x11 [1] ++ [])
    ∧ FrameMet (.hardwareInit true) (.borderSelect [5]) (bringUp 10).1 (bringUp 10).2 [] (frameTrace tiny 0x3C [5] ++ [])
    ∧ FrameMet (.hardwareInit true) (.tempSensorSelect [0x80]) (bringUp 11).1 (bringUp 11).2 []
      (frameTrace tiny 0x18 [0x80] ++ [])
    ∧ FrameMet .deepSleep (.deepSleepFrame [3]) [.own [.requireReady]] [] [] (frameTrace tiny 0x10 [3] ++ []) :=
  ⟨⟨by decide, ⟨rfl, rfl⟩, by decide⟩, ⟨by decide, ⟨rfl, rfl⟩, by decide⟩, ⟨by decide, ⟨rfl, rfl⟩, by decide⟩,
    ⟨by decide, ⟨rfl, rfl⟩, by decide⟩, ⟨by decide, ⟨rfl, rfl⟩, by decide⟩⟩

/-- The pieces of `loadBaseMap` of two bytes, with the full refresh, up to and from a given one. -/
def baseMap (k : Nat) : List Piece × List Piece :=
  ((loadBaseMapPieces tiny (some [1, 2]) false).take k, (loadBaseMapPieces tiny (some [1, 2]) false).drop (k + 1))

/-- The first 105 bytes of the small panel's default table. -/
def mainLut : List Byte := (List.range 105).map (BitVec.ofNat 8)

theorem witness_DataFramesComplete :
    FrameMet (.loadBaseMap (some [1, 2]) false) (.writeRamOld [1, 2]) (baseMap 5).1 (baseMap 5).2 []
      (frameTrace tiny 0x24 [1, 2] ++ [])
    ∧ FrameMet (.loadBaseMap (some [1, 2]) false) (.writeRamNew [1, 2]) (baseMap 6).1 (baseMap 6).2 []
      (frameTrace tiny 0x26 [1, 2] ++ [])
    ∧ FrameMet (.loadBaseMap (some [1, 2]) false) (.writeLut mainLut) (baseMap 7).1 (baseMap 7).2 [.high, .low]
      (frameTrace tiny 0x32 mainLut ++ waitTrace tiny 1)
    ∧ FrameMet (.loadBaseMap (some [1, 2]) false) (.gateTiming 105) (baseMap 8).1 (baseMap 8).2 []
      (frameTrace tiny 0x03 [105] ++ [])
    ∧ FrameMet (.loadBaseMap (some [1, 2]) false) (.sourceTiming 106 107 108) (baseMap 9).1 (baseMap 9).2 []
      (frameTrace tiny 0x04 [106, 107, 108] ++ [])
    ∧ FrameMet (.loadBaseMap (some [1, 2]) false) (.vcom 109) (baseMap 10).1 (baseMap 10).2 []
      (frameTrace tiny 0x2C [109] ++ [])
    ∧ FrameMet (.loadBaseMap (some [1, 2]) false) (.displayUpdateControl 0xC7) (baseMap 11).1 (baseMap 11).2 []
      (frameTrace tiny 0x22 [0xC7] ++ []) :=
  ⟨⟨by decide, ⟨rfl, rfl⟩, by decide⟩, ⟨by decide, ⟨rfl, rfl⟩, by decide⟩, ⟨by decide, ⟨rfl, rfl⟩, by decide⟩,
    ⟨by decide, ⟨rfl, rfl⟩, by decide⟩, ⟨by decide, ⟨rfl, rfl⟩, by decide⟩, ⟨by decide, ⟨rfl, rfl⟩, by decide⟩,
    ⟨by decide, ⟨rfl, rfl⟩, by decide⟩⟩

/-- A source of exactly the rectangle's bytes. -/
theorem witness_PackAnswersWithWindowAndBytes :
    (3 : U16).toNat ≠ 0 ∧ (2 : U16).toNat ≠ 0
    ∧ (3 : U16).toNat * (2 : U16).toNat * bytesPerPixel .bgr888 ≤ (List.replicate 18 (0 : Byte)).length := by decide

/-- The last row and column of a 3 by 2 rectangle at X 13, and the last pad bit before it (a leading pad of 5, no right
pad); the first right pad bit of a 2-wide one. -/
theorem witness_PackedBitsAreTheClassifiedPixels :
    1 < (2 : U16).toNat ∧ 2 < (3 : U16).toNat
    ∧ (4 < ((3 : U16).toNat + (13 : U16).toNat % 8 + 7) / 8 * 8 ∧ 4 < (13 : U16).toNat % 8)
    ∧ (7 < ((2 : U16).toNat + (13 : U16).toNat % 8 + 7) / 8 * 8 ∧ (13 : U16).toNat % 8 + (2 : U16).toNat ≤ 7) := by decide

/-- V-PK-9: each of the errors. -/
theorem witness_PackChecksItsArguments :
    (0 : U16).toNat = 0 ∧ (none : BufRef) = none
    ∧ ∃ bytes, some [(0x00 : Byte), 0xFF, 0x7F, 0x80, 0x00] = some bytes
      ∧ bytes.length < (3 : U16).toNat * (2 : U16).toNat * bytesPerPixel .l8 := ⟨rfl, rfl, _, rfl, by decide⟩

/-- One state idle and Uninitialized, the other mid-operation and Ready. -/
theorem witness_PackDependsOnItsOperandsAlone :
    (fresh [] []).params = (inFlight .triggerRefresh 3 (ready oks [])).params
    ∧ (1 : U16).toNat * (1 : U16).toNat * bytesPerPixel .l8 ≤ [(0 : Byte)].length := by decide

/-- A configuration without byte swap, and the word of the bytes 0x10, 0x84 there and with byte swap. -/
theorem witness_PixelsDecodeToTheirChannels :
    tiny.rgb565ByteSwap = false
    ∧ 0x8410 = (if tiny.rgb565ByteSwap then (0x10 : Byte).toNat * 256 + (0x84 : Byte).toNat
        else (0x10 : Byte).toNat + (0x84 : Byte).toNat * 256)
    ∧ 0x1084 = (if { tiny with rgb565ByteSwap := true }.rgb565ByteSwap then (0x10 : Byte).toNat * 256 + (0x84 : Byte).toNat
        else (0x10 : Byte).toNat + (0x84 : Byte).toNat * 256) := by decide

end Sys2Proof.Tests
end

section
/-! The shape of the scripts, said once (10_state.md R21): which acts a frame is made of, which acts are an operation's own,
and that every busy sample is followed by its delay. -/

namespace Sys2Proof.Machine

/-- An act of a command frame (R101–R104): it drives DC, sends 1 to `MAX_TXN` bytes, or belongs to a busy wait. -/
def Act.Sends (p : Params) : Act → Prop
  | .setLine line _ => line = .dc
  | .xfer bytes => 1 ≤ p.maxTxn → 1 ≤ bytes.length ∧ bytes.length ≤ p.maxTxn
  | .sampleBusy => True
  | .pollDelay _ => True
  | _ => False

/-- A chunk of STREAM is not empty and fits into one transaction (R57, R103). -/
theorem length_of_mem_chunks {m : Nat} {payload c : List Byte} (h : c ∈ chunks m payload) :
    1 ≤ c.length ∧ c.length ≤ m := by
  simp only [chunks, List.mem_map, List.mem_range] at h
  obtain ⟨i, hi, rfl⟩ := h
  have hm : 0 < m := by
    rcases Nat.eq_zero_or_pos m with rfl | hm
    · simp [ceilDiv] at hi
    · exact hm
  have hstart : (i + 1) * m ≤ payload.length + m - 1 := (Nat.le_div_iff_mul_le hm).1 hi
  rw [Nat.succ_mul] at hstart
  simp only [memRead, List.length_take, List.length_drop]
  omega

theorem sends_of_mem_send {p : Params} {mode : Mode} {bytes : List Byte}
    (hb : 1 ≤ p.maxTxn → 1 ≤ bytes.length ∧ bytes.length ≤ p.maxTxn) {a : Act} (h : a ∈ send p mode bytes) : a.Sends p := by
  simp only [send, List.mem_cons, List.not_mem_nil, or_false] at h
  rcases h with rfl | rfl
  · rfl
  · exact hb

theorem sends_of_mem_waitBusy {p : Params} {a : Act} (h : a ∈ waitBusy p) : a.Sends p := by
  simp only [waitBusy, List.mem_cons, List.not_mem_nil, or_false] at h
  rcases h with rfl | rfl <;> trivial

theorem sends_of_mem_cmd {p : Params} {op : Byte} {payload : List Byte} {a : Act} (h : a ∈ cmd p op payload) :
    a.Sends p := by
  rw [cmd, List.mem_append] at h
  rcases h with h | h
  · exact sends_of_mem_send (fun hm => ⟨by simp, by simpa using hm⟩) h
  · split at h
    · obtain ⟨c, hc, ha⟩ := List.mem_flatMap.1 h
      exact sends_of_mem_send (fun _ => length_of_mem_chunks hc) ha
    · cases h

/-- A frame's acts are one `CMD` and then at most one busy wait (R250, R251, R263, R268). -/
theorem frameActs_eq_cmd (p : Params) {f : Instr} (hf : f.isFrame = true) :
    ∃ op payload wait, frameActs p f = cmd p op payload ++ wait ∧ (wait = [] ∨ wait = waitBusy p) := by
  cases f
  case softReset | writeLut | masterTrigger => exact ⟨_, _, waitBusy p, rfl, .inr rfl⟩
  case init | deinit | hardwareInit | clear | loadBaseMap | drawRegion | triggerRefresh | deepSleep | pack => cases hf
  all_goals exact ⟨_, _, [], (List.append_nil _).symm, .inl rfl⟩

/-- Every act of a frame sends. -/
theorem sends_of_mem_frameActs {p : Params} {f : Instr} {a : Act} (h : a ∈ frameActs p f) : a.Sends p := by
  cases hf : f.isFrame with
  | false => simp [frameActs_operation hf] at h
  | true =>
    obtain ⟨op, payload, wait, he, hw⟩ := frameActs_eq_cmd p hf
    rw [he, List.mem_append] at h
    rcases h with h | h
    · exact sends_of_mem_cmd h
    · rcases hw with rfl | rfl
      · cases h
      · exact sends_of_mem_waitBusy h

/-! ## An operation's own acts -/

/-- The acts of a piece that are no frame's. -/
def Piece.ownActs : Piece → List Act
  | .own acts => acts
  | .frame _ => []

/-- The acts of an operation that lie outside its frames. -/
def ownActs (p : Params) (i : Instr) : List Act := (pieces p i).flatMap Piece.ownActs

/-- An act of a script is the operation's own or a frame's. -/
theorem ownActs_or_sends {p : Params} {i : Instr} {a : Act} (h : a ∈ script p i) : a ∈ ownActs p i ∨ a.Sends p := by
  obtain ⟨x, hx, ha⟩ := List.mem_flatMap.1 h
  cases x with
  | own acts => exact .inl (List.mem_flatMap.2 ⟨_, hx, ha⟩)
  | frame f => exact .inr (sends_of_mem_frameActs ha)

@[simp] theorem script_init (p : Params) (bus dc rst busy cs : Byte) (hz : U32) :
    script p (.init bus dc rst busy cs hz) =
      [.requireArg (initLinesOk p dc rst busy cs), .requireUninitialized, .configLines dc rst busy cs,
        .acquireBus ⟨bus, dc, rst, busy, cs, hz⟩] := rfl

@[simp] theorem script_deinit (p : Params) : script p .deinit = [.returnIfUninitialized, .releaseBus] := rfl

@[simp] theorem ownActs_init (p : Params) (bus dc rst busy cs : Byte) (hz : U32) :
    ownActs p (.init bus dc rst busy cs hz) = script p (.init bus dc rst busy cs hz) := rfl

@[simp] theorem ownActs_deinit (p : Params) : ownActs p .deinit = script p .deinit := rfl

@[simp] theorem ownActs_hardwareInit (p : Params) (fast : Bool) :
    ownActs p (.hardwareInit fast) = .requireReady :: (resetPulse p ++ waitBusy p) := rfl

@[simp] theorem ownActs_clear (p : Params) (fill : Byte) : ownActs p (.clear fill) = [.requireReady] := rfl

@[simp] theorem ownActs_loadBaseMap (p : Params) (data : BufRef) (fast : Bool) :
    ownActs p (.loadBaseMap data fast) = [.requireReady, .requireArg (baseMapOk p data)] := by
  cases fast <;> rfl

@[simp] theorem ownActs_drawRegion (p : Params) (x y : U16) (bits : BufRef) (wb hr : U16) (defer : Bool) :
    ownActs p (.drawRegion x y bits wb hr defer) =
      .requireReady :: (drawChecks bits wb hr (drawWindow x y wb hr)
        ++ .requireWindow (windowInPanel p (drawWindow x y wb hr)) :: resetPulse p) := by
  cases defer <;> rfl

@[simp] theorem ownActs_triggerRefresh (p : Params) : ownActs p .triggerRefresh = [.requireReady] := rfl

@[simp] theorem ownActs_deepSleep (p : Params) : ownActs p .deepSleep = [.requireReady] := rfl

/-- `pack` and the frames have no acts outside frames. -/
theorem ownActs_nil {p : Params} {i : Instr} (hi : isOperation i = false) : ownActs p i = [] := by
  rw [ownActs, pieces_nil hi, List.flatMap_nil]

/-- The checks of the scripts: the entries that emit nothing (R21). -/
def Act.isCheck : Act → Bool
  | .requireReady => true
  | .requireUninitialized => true
  | .returnIfUninitialized => true
  | .requireArg _ => true
  | .requireWindow _ => true
  | _ => false

/-- What an operation does outside its frames: checks, the reset pulse and busy waits; `init` configures the lines and
acquires the bus for its arguments, `deinit` releases it (R120, R124, R140, R204). -/
theorem ownActs_cases {p : Params} {i : Instr} {a : Act} (h : a ∈ ownActs p i) :
    a.isCheck = true ∨ a ∈ resetPulse p ∨ a ∈ waitBusy p
    ∨ (∃ bus dc rst busy cs hz, i = .init bus dc rst busy cs hz
        ∧ (a = .configLines dc rst busy cs ∨ a = .acquireBus ⟨bus, dc, rst, busy, cs, hz⟩))
    ∨ (i = .deinit ∧ a = .releaseBus) := by
  cases hi : isOperation i with
  | false => simp [ownActs_nil hi] at h
  | true =>
    revert a
    cases i
    case init | deinit => simp [Act.isCheck]
    case hardwareInit | clear | loadBaseMap | drawRegion | triggerRefresh | deepSleep =>
      simp [Act.isCheck, drawChecks, resetPulse, waitBusy]
    all_goals cases hi

/-- Only `init` acquires the bus, for its six arguments (R120). -/
theorem acquireBus_mem_script {p : Params} {i : Instr} {cfg : PanelConfig} (h : .acquireBus cfg ∈ script p i) :
    i = .init cfg.busHost cfg.dcLine cfg.rstLine cfg.busyLine cfg.csLine cfg.clockHz := by
  rcases ownActs_or_sends h with h | h
  · obtain ⟨_, _, _, _, _, _, rfl, rfl⟩ : ∃ bus dc rst busy cs hz, i = .init bus dc rst busy cs hz
        ∧ cfg = ⟨bus, dc, rst, busy, cs, hz⟩ := by
      simpa [Act.isCheck, resetPulse, waitBusy] using ownActs_cases h
    rfl
  · cases h

/-- Only `deinit` releases the bus (R124). -/
theorem releaseBus_mem_script {p : Params} {i : Instr} (h : .releaseBus ∈ script p i) : i = .deinit := by
  rcases ownActs_or_sends h with h | h
  · simpa [Act.isCheck, resetPulse, waitBusy] using ownActs_cases h
  · cases h

/-- Every transaction of a script has 1 to `MAX_TXN` bytes (R57). -/
theorem length_of_xfer_mem_script {p : Params} {i : Instr} {bytes : List Byte} (hm : 1 ≤ p.maxTxn)
    (h : .xfer bytes ∈ script p i) : 1 ≤ bytes.length ∧ bytes.length ≤ p.maxTxn := by
  rcases ownActs_or_sends h with h | h
  · simpa [Act.isCheck, resetPulse, waitBusy] using ownActs_cases h
  · exact h hm

/-! ## Busy waits in a script -/

/-- Every busy sample of a list of acts is followed by its delay (R104). -/
def SamplesPaired (p : Params) (acts : List Act) : Prop :=
  ∀ k, acts[k]? = some .sampleBusy → acts[k + 1]? = some (.pollDelay p.busyPollMs)

theorem SamplesPaired.append {p : Params} {as bs : List Act} (ha : SamplesPaired p as) (hb : SamplesPaired p bs) :
    SamplesPaired p (as ++ bs) := by
  intro k h
  rcases Nat.lt_or_ge k as.length with hk | hk
  · rw [List.getElem?_append_left hk] at h
    have := ha k h
    rwa [List.getElem?_append_left (List.getElem?_eq_some_iff.1 this).1]
  · rw [List.getElem?_append_right hk] at h
    rw [List.getElem?_append_right (by omega), Nat.sub_add_comm hk]
    exact hb _ h

theorem SamplesPaired.of_not_mem {p : Params} {acts : List Act} (h : .sampleBusy ∉ acts) : SamplesPaired p acts :=
  fun _ hk => absurd (List.mem_of_getElem? hk) h

theorem samplesPaired_waitBusy (p : Params) : SamplesPaired p (waitBusy p) := by
  intro k h
  match k with
  | 0 => rfl
  | 1 => simp [waitBusy] at h
  | k + 2 => simp [waitBusy] at h

theorem sampleBusy_not_mem_cmd (p : Params) (op : Byte) (payload : List Byte) : .sampleBusy ∉ cmd p op payload := by
  unfold cmd
  split <;> simp [send, stream]

theorem samplesPaired_frameActs (p : Params) (f : Instr) : SamplesPaired p (frameActs p f) := by
  cases hf : f.isFrame with
  | false => exact .of_not_mem (by simp [frameActs_operation hf])
  | true =>
    obtain ⟨op, payload, wait, he, hw⟩ := frameActs_eq_cmd p hf
    rw [he]
    refine .append (.of_not_mem (sampleBusy_not_mem_cmd p op payload)) ?_
    rcases hw with rfl | rfl
    · exact .of_not_mem List.not_mem_nil
    · exact samplesPaired_waitBusy p

theorem samplesPaired_flatten {p : Params} {ps : List Piece} (h : ∀ acts, .own acts ∈ ps → SamplesPaired p acts) :
    SamplesPaired p (flatten p ps) := by
  induction ps with
  | nil => exact .of_not_mem List.not_mem_nil
  | cons x rest ih =>
    refine .append ?_ (ih fun acts ha => h acts (.tail _ ha))
    cases x with
    | own acts => exact h acts (.head _)
    | frame f => exact samplesPaired_frameActs p f

/-- Only `hardwareInit` waits outside its frames (R140). -/
theorem sampleBusy_mem_ownActs {p : Params} {i : Instr} (h : .sampleBusy ∈ ownActs p i) :
    ∃ fast, i = .hardwareInit fast := by
  cases hi : isOperation i with
  | false => simp [ownActs_nil hi] at h
  | true =>
    cases i
    case hardwareInit fast => exact ⟨fast, rfl⟩
    case init | deinit | clear | loadBaseMap | drawRegion | triggerRefresh | deepSleep =>
      simp [drawChecks, resetPulse] at h
    all_goals cases hi

/-- In every script a busy sample is followed by its delay (R104). -/
theorem samplesPaired_script (p : Params) (i : Instr) : SamplesPaired p (script p i) := by
  refine samplesPaired_flatten fun acts h => ?_
  by_cases hs : .sampleBusy ∈ acts
  · obtain ⟨fast, rfl⟩ := sampleBusy_mem_ownActs (List.mem_flatMap.2 ⟨_, h, hs⟩)
    have hacts : acts = [.requireReady] ∨ acts = resetPulse p ++ waitBusy p := by
      simpa [pieces, hardwareInitPieces, programRegisters, setFullWindow, setWindow, updateAndTrigger] using h
    rcases hacts with rfl | rfl
    · simp at hs
    · exact .append (.of_not_mem (by simp [resetPulse])) (samplesPaired_waitBusy p)
  · exact .of_not_mem hs

end Sys2Proof.Machine
end

section
/-! What a script entry that answers a next state has done, as an equation for the state after it, and what a step of the
machine that answers one has done. Every invariant below is a case analysis of these two. -/

namespace Sys2Proof.Machine

/-- The event an entry makes when it is performed from `s`; a check makes none (R21). -/
def Act.event (s : State) : Act → Option Event
  | .configLines dc rst busy cs => some (.configLines dc rst busy cs)
  | .acquireBus cfg => some (.acquireBus cfg.busHost (effectiveClock s.params cfg))
  | .releaseBus => some .releaseBus
  | .setLine line level => some (.setLine line level)
  | .xfer bytes => some (.xfer bytes)
  | .delay ms => some (.delay ms)
  | .sampleBusy => some (.sampleBusy s.busyLevel)
  | .pollDelay ms => some (.delay ms)
  | _ => none

/-- The writes to the driver's registers beside an entry's event (R121, R124). -/
def Act.write : Act → State → State
  | .acquireBus cfg, s => s.acquired cfg
  | .releaseBus, s => s.released
  | _, s => s

/-- The entry at which the script goes on after entry `k` is performed from `s` (R21, R104). -/
def Act.nextEntry (s : State) (k : Nat) : Act → Nat
  | .sampleBusy => if s.busyLevel = .low then k + 2 else k + 1
  | .pollDelay _ => k - 1
  | _ => k + 1

@[simp] theorem Act.write_params (a : Act) (s : State) : (a.write s).params = s.params := by cases a <;> rfl
@[simp] theorem Act.write_dcLvl (a : Act) (s : State) : (a.write s).dcLvl = s.dcLvl := by cases a <;> rfl
@[simp] theorem Act.write_rstLvl (a : Act) (s : State) : (a.write s).rstLvl = s.rstLvl := by cases a <;> rfl
@[simp] theorem Act.write_cur (a : Act) (s : State) : (a.write s).cur = s.cur := by cases a <;> rfl
@[simp] theorem Act.write_pc (a : Act) (s : State) : (a.write s).pc = s.pc := by cases a <;> rfl
@[simp] theorem Act.write_trace (a : Act) (s : State) : (a.write s).trace = s.trace := by cases a <;> rfl
@[simp] theorem Act.write_responses (a : Act) (s : State) : (a.write s).responses = s.responses := by cases a <;> rfl
@[simp] theorem Act.write_requests (a : Act) (s : State) : (a.write s).requests = s.requests := by cases a <;> rfl
@[simp] theorem Act.write_turns (a : Act) (s : State) : (a.write s).turns = s.turns := by cases a <;> rfl
@[simp] theorem Act.write_turnCount (a : Act) (s : State) : (a.write s).turnCount = s.turnCount := by cases a <;> rfl

/-- Only a transaction entry makes a transaction. -/
theorem Act.eq_xfer_of_event {a : Act} {s : State} {bytes : List Byte} (h : a.event s = some (.xfer bytes)) :
    a = .xfer bytes := by
  cases a <;> cases h
  rfl

/-- What a script entry that answers a next state has done: a check passed, or ended the operation, without an event; an
event happened, with the entry's writes; or the event was a failing transaction, which ended the operation (R302, R309). -/
theorem perform_next {a : Act} {k : Nat} {s t : State} (h : perform a k s = .next t) :
    (a.event s = none ∧ a.passed s ∧ t = s.goto (k + 1))
    ∨ (a.event s = none ∧ ∃ r, t = s.finish r)
    ∨ (∃ e, a.event s = some e ∧ DrawShows s e ∧ t = (a.write (s.observe e)).goto (a.nextEntry s k))
    ∨ (∃ e c, a.event s = some e ∧ ¬ DrawShows s e ∧ s.outcome = .fail c ∧ t = (s.observe e).finish (.busError c)) := by
  cases a with
  | requireReady =>
    by_cases hd : s.drv = .ready
    · simp only [perform, if_pos hd, Host.Outcome.next.injEq] at h
      exact .inl ⟨rfl, hd, h.symm⟩
    · simp only [perform, if_neg hd, raise, Host.Outcome.next.injEq] at h
      exact .inr (.inl ⟨rfl, _, h.symm⟩)
  | requireUninitialized =>
    by_cases hd : s.drv = .ready
    · simp only [perform, if_pos hd, raise, Host.Outcome.next.injEq] at h
      exact .inr (.inl ⟨rfl, _, h.symm⟩)
    · simp only [perform, if_neg hd, Host.Outcome.next.injEq] at h
      exact .inl ⟨rfl, trivial, h.symm⟩
  | returnIfUninitialized =>
    by_cases hd : s.drv = .uninitialized
    · simp only [perform, if_pos hd, Host.Outcome.next.injEq] at h
      exact .inr (.inl ⟨rfl, _, h.symm⟩)
    · simp only [perform, if_neg hd, Host.Outcome.next.injEq] at h
      exact .inl ⟨rfl, trivial, h.symm⟩
  | requireArg holds =>
    cases holds <;> cases h
    · exact .inr (.inl ⟨rfl, _, rfl⟩)
    · exact .inl ⟨rfl, rfl, rfl⟩
  | requireWindow holds =>
    cases holds <;> cases h
    exact .inl ⟨rfl, rfl, rfl⟩
  | acquireBus cfg =>
    cases ho : s.outcome with
    | ok =>
      simp only [perform, ho, Host.Outcome.next.injEq] at h
      exact .inr (.inr (.inl ⟨_, rfl, ho, h.symm⟩))
    | fail c =>
      simp only [perform, ho, raise, Host.Outcome.next.injEq] at h
      exact .inr (.inr (.inr ⟨_, c, rfl, by simp [DrawShows, ho], rfl, h.symm⟩))
  | xfer bytes =>
    cases ho : s.outcome with
    | ok =>
      rw [perform_xfer ho] at h
      cases h
      exact .inr (.inr (.inl ⟨_, rfl, ho, rfl⟩))
    | fail c =>
      rw [perform_xfer_fail ho] at h
      cases h
      exact .inr (.inr (.inr ⟨_, c, rfl, by simp [DrawShows, ho], rfl, rfl⟩))
  | sampleBusy =>
    refine .inr (.inr (.inl ⟨_, rfl, rfl, ?_⟩))
    cases hl : s.busyLevel with
    | low =>
      rw [perform_sample_low hl] at h
      cases h
      simp [Act.write, Act.nextEntry, hl]
    | high =>
      rw [perform_sample_high hl] at h
      cases h
      simp [Act.write, Act.nextEntry, hl]
  | configLines dc rst busy cs => cases h; exact .inr (.inr (.inl ⟨_, rfl, trivial, rfl⟩))
  | releaseBus => cases h; exact .inr (.inr (.inl ⟨_, rfl, trivial, rfl⟩))
  | setLine line level => cases h; exact .inr (.inr (.inl ⟨_, rfl, trivial, rfl⟩))
  | delay ms => cases h; exact .inr (.inr (.inl ⟨_, rfl, trivial, rfl⟩))
  | pollDelay ms => cases h; exact .inr (.inr (.inl ⟨_, rfl, trivial, rfl⟩))

/-! ## The step of the machine -/

/-- State `u` is `s` but for the host's requests and the packer's turns, which choosing the next move takes from (R313). -/
def State.MovesTo (s u : State) : Prop := ∃ rs ts n, u = { s with requests := rs, turns := ts, turnCount := n }

/-- What a step that answers a next state has done, once the next move is chosen: nothing; the packer's answer; or, for an
operation of the sequencer, its acceptance, the entry at its step pointer, or its end (R109, R313). -/
theorem step_next {s t : State} (h : step s = .next t) :
    ∃ u, s.MovesTo u ∧
      (t = u
        ∨ (∃ r, t = u.respond r)
        ∨ (∃ i, isOperation i = true ∧ u.pc = .idle ∧ t = u.accept i)
        ∨ (∃ i k a, configOk u.params = true ∧ u.At i k ∧ (script u.params i)[k]? = some a ∧ perform a k u = .next t)
        ∨ t = u.finish .ok) := by
  rcases step_cases h with rfl | ⟨i, rs, ts, n, hc, he, hi⟩
  · exact ⟨t, ⟨_, _, _, rfl⟩, .inl rfl⟩
  · refine ⟨_, ⟨rs, ts, n, rfl⟩, .inr ?_⟩
    rcases hi with hp | ⟨hi, -⟩
    · exact .inl (exec_pack_cases hp he)
    · rcases exec_cases hi he with ⟨hpc, ht⟩ | ⟨k, hk, ⟨a, ha, hperf⟩ | ⟨-, ht⟩⟩
      · exact .inr (.inl ⟨i, hi, hpc, ht⟩)
      · exact .inr (.inr (.inl ⟨i, k, a, hc, hk, ha, hperf⟩))
      · exact .inr (.inr (.inr ht))

end Sys2Proof.Machine
end

section
/-! That every step keeps `Consistent` (O18): each update an entry is made of keeps it, and an entry is those updates. -/

namespace Sys2Proof.Machine

/-- Whether a check has been passed depends on the driver state alone. -/
theorem Act.passed_congr {s t : State} (h : t.drv = s.drv) (a : Act) : a.passed t ↔ a.passed s := by
  cases a <;> simp [Act.passed, h]

/-- No event takes the level from a driven line (R28). -/
theorem State.observe_driven {s : State} (e : Event) (h : s.dcLvl ≠ .undriven ∧ s.rstLvl ≠ .undriven) :
    (s.observe e).dcLvl ≠ .undriven ∧ (s.observe e).rstLvl ≠ .undriven := by
  cases e with
  | setLine line level => cases line <;> simp [State.observe, h]
  | _ => simp [State.observe, h]

theorem Consistent.movesTo {s u : State} (h : Consistent s) (hu : s.MovesTo u) : Consistent u := by
  obtain ⟨rs, ts, n, rfl⟩ := hu
  exact ⟨h.curPc, h.operation, h.checks, h.held, h.configured, h.validLines, h.driven, h.initDriven, h.transactions⟩

theorem Consistent.respond {s : State} (h : Consistent s) (r : Response) : Consistent (s.respond r) :=
  ⟨h.curPc, h.operation, h.checks, h.held, h.configured, h.validLines, h.driven, h.initDriven, h.transactions⟩

/-- An accepted operation has passed no check yet (R109). -/
theorem Consistent.accept {s : State} (h : Consistent s) {i : Instr} (hi : isOperation i = true) :
    Consistent (s.accept i) where
  curPc := by simp
  operation := by simp [hi]
  checks := by
    rintro q k j a ⟨-, hk⟩ hj
    simp only [State.accept_pc, Pc.step.injEq] at hk
    omega
  held := h.held
  configured := h.configured
  validLines := h.validLines
  driven := h.driven
  initDriven := by
    rintro bus dc rst busy cs hz k ⟨-, hk⟩
    simp only [State.accept_pc, Pc.step.injEq] at hk
    omega
  transactions := h.transactions

/-- Nothing is in flight once an operation has ended (R309). -/
theorem Consistent.finish {s : State} (h : Consistent s) (r : Response) : Consistent (s.finish r) where
  curPc := by simp
  operation := by simp
  checks := by rintro q k j a ⟨hq, -⟩; cases hq
  held := h.held
  configured := h.configured
  validLines := h.validLines
  driven := h.driven
  initDriven := by rintro bus dc rst busy cs hz k ⟨hq, -⟩; cases hq
  transactions := h.transactions

theorem Consistent.observe {s : State} (h : Consistent s) {e : Event}
    (he : ∀ bytes, e = .xfer bytes → 1 ≤ bytes.length ∧ bytes.length ≤ s.params.maxTxn) : Consistent (s.observe e) where
  curPc := by simpa using h.curPc
  operation := by simpa using h.operation
  checks := by
    rintro q k j a ⟨hq, hk⟩ hj ha
    rw [State.observe_cur] at hq
    rw [State.observe_pc] at hk
    rw [State.observe_params] at ha
    exact (Act.passed_congr (State.observe_drv s e) a).2 (h.checks q k j a ⟨hq, hk⟩ hj ha)
  held := by simpa using h.held
  configured := by simpa using h.configured
  validLines := by simpa using h.validLines
  driven := fun hd => State.observe_driven e (h.driven (by simpa using hd))
  initDriven := by
    rintro bus dc rst busy cs hz k ⟨hq, hk⟩
    rw [State.observe_cur] at hq
    rw [State.observe_pc] at hk
    exact State.observe_driven e (h.initDriven _ _ _ _ _ _ k ⟨hq, hk⟩)
  transactions := by
    intro bytes hb
    rw [State.observe_trace, List.mem_append, List.mem_singleton] at hb
    rw [State.observe_params]
    rcases hb with hb | hb
    · exact h.transactions bytes hb
    · exact he bytes hb.symm

/-- The success writes of `init`, which has checked its lines and configured them (R120, R121). -/
theorem Consistent.acquired {s : State} (h : Consistent s) {cfg : PanelConfig} {k : Nat}
    (hk : s.At (.init cfg.busHost cfg.dcLine cfg.rstLine cfg.busyLine cfg.csLine cfg.clockHz) (k + 3)) :
    Consistent (s.acquired cfg) where
  curPc := h.curPc
  operation := h.operation
  checks := by
    intro q k' j a hq hj ha
    have hpass := h.checks q k' j a hq hj ha
    cases a with
    | requireReady => rfl
    | _ => exact hpass
  held := by simp
  configured := by simp
  validLines := by
    rintro c hc
    cases hc
    exact h.checks _ _ 0 (.requireArg _) hk (by omega) rfl
  driven := fun _ => h.initDriven _ _ _ _ _ _ k hk
  initDriven := h.initDriven
  transactions := h.transactions

/-- The writes of `deinit`, whose script requires no Ready driver (R124, R125). -/
theorem Consistent.released {s : State} (h : Consistent s) {k : Nat} (hk : s.At .deinit k) : Consistent s.released where
  curPc := h.curPc
  operation := h.operation
  checks := by
    rintro q k' j a ⟨hq, -⟩ - ha
    have hd : q = .deinit := by simpa [hk.1] using hq.symm
    subst hd
    have := List.mem_of_getElem? ha
    simp only [script_deinit, List.mem_cons, List.not_mem_nil, or_false] at this
    rcases this with rfl | rfl <;> trivial
  held := by simp
  configured := by simp
  validLines := by simp
  driven := by simp
  initDriven := h.initDriven
  transactions := h.transactions

/-- The step pointer may go where every entry before it has been passed and, past the line configuration of an `init`, the
lines are driven. -/
theorem Consistent.goto {s : State} (h : Consistent s) {i : Instr} {k m : Nat} (hk : s.At i k)
    (hpassed : ∀ j a, j < m → (script s.params i)[j]? = some a → a.passed s)
    (hlines : ∀ bus dc rst busy cs hz, i = .init bus dc rst busy cs hz → 3 ≤ m →
      s.dcLvl ≠ .undriven ∧ s.rstLvl ≠ .undriven) : Consistent (s.goto m) where
  curPc := by simp [hk.1]
  operation := h.operation
  checks := by
    rintro q k' j a ⟨hq, hk'⟩ hj ha
    cases hk'
    rw [State.goto_cur, hk.1] at hq
    cases hq
    exact hpassed j a hj ha
  held := h.held
  configured := h.configured
  validLines := h.validLines
  driven := h.driven
  initDriven := by
    rintro bus dc rst busy cs hz k' ⟨hq, hk'⟩
    cases hk'
    rw [State.goto_cur, hk.1] at hq
    cases hq
    exact hlines _ _ _ _ _ _ rfl (by omega)
  transactions := h.transactions

/-- An entry that makes an event is passed by it. -/
theorem Act.passed_of_event {a : Act} {s t : State} {e : Event} (h : a.event s = some e) : a.passed t := by
  cases a with
  | requireReady | requireArg | requireWindow => cases h
  | _ => trivial

/-- Every entry but the sample of a busy wait leads no further than the next one. -/
theorem Act.nextEntry_le (a : Act) (s : State) (k : Nat) : a.nextEntry s k ≤ k + 1 ∨ a = .sampleBusy := by
  cases a with
  | sampleBusy => exact .inr rfl
  | pollDelay ms => exact .inl (Nat.le_succ_of_le (Nat.sub_le k 1))
  | _ => exact .inl (Nat.le_refl _)

/-- An `init` that makes an event leaves the lines driven: it configures them, or has done so before (R28, R120). -/
theorem init_lines_driven {s : State} (h : Consistent s) {bus dc rst busy cs : Byte} {hz : U32} {k : Nat} {a : Act}
    {e : Event} (hk : s.At (.init bus dc rst busy cs hz) k)
    (ha : (script s.params (.init bus dc rst busy cs hz))[k]? = some a) (he : a.event s = some e) :
    (s.observe e).dcLvl ≠ .undriven ∧ (s.observe e).rstLvl ≠ .undriven := by
  rw [script_init] at ha
  match k, ha with
  | 0, rfl => cases he
  | 1, rfl => cases he
  | 2, rfl =>
    cases he
    simp [State.observe]
  | k + 3, _ => exact State.observe_driven e (h.initDriven _ _ _ _ _ _ k hk)

/-- The writes beside an entry's event keep the state consistent (R26, R27). -/
theorem Consistent.write {s : State} (h : Consistent s) {i : Instr} {k : Nat} {a : Act} (hk : s.At i k)
    (ha : (script s.params i)[k]? = some a) : Consistent (a.write s) := by
  cases a with
  | acquireBus cfg =>
    obtain rfl := acquireBus_mem_script (List.mem_of_getElem? ha)
    rw [script_init] at ha
    match k, ha with
    | k + 3, _ => exact h.acquired hk
  | releaseBus =>
    obtain rfl := releaseBus_mem_script (List.mem_of_getElem? ha)
    exact h.released hk
  | _ => exact h

/-- After a passed check the step pointer moves on consistently. -/
theorem Consistent.passCheck {s : State} (h : Consistent s) {i : Instr} {k : Nat} {a : Act} (hk : s.At i k)
    (ha : (script s.params i)[k]? = some a) (hcheck : a.event s = none) (hpassed : a.passed s) :
    Consistent (s.goto (k + 1)) := by
  refine h.goto hk (fun j b hj hb => ?_) ?_
  · rcases Nat.lt_succ_iff_lt_or_eq.1 hj with hj | rfl
    · exact h.checks i k j b hk hj hb
    · rw [ha] at hb
      cases hb
      exact hpassed
  · rintro bus dc rst busy cs hz rfl hk3
    rw [script_init] at ha
    match k, ha with
    | 2, rfl => cases hcheck
    | k + 3, _ => exact h.initDriven _ _ _ _ _ _ k hk

/-- After an event the step pointer moves on consistently. -/
theorem Consistent.passEvent {s : State} (h : Consistent s) {i : Instr} {k : Nat} {a : Act} {e : Event}
    (hk : s.At i k) (ha : (script s.params i)[k]? = some a) (he : a.event s = some e)
    (hu : Consistent (s.observe e)) : Consistent ((a.write (s.observe e)).goto (a.nextEntry s k)) := by
  have hk' : (s.observe e).At i k := ⟨by simpa using hk.1, by simpa using hk.2⟩
  have hw : Consistent (a.write (s.observe e)) := hu.write hk' (by simpa using ha)
  have hkw : (a.write (s.observe e)).At i k := ⟨by simpa using hk.1, by simpa using hk.2⟩
  refine hw.goto hkw (fun j b hj hb => ?_) ?_
  · rcases Nat.lt_trichotomy j k with hlt | rfl | hgt
    · exact hw.checks i k j b hkw hlt hb
    · simp only [Act.write_params, State.observe_params, ha, Option.some.injEq] at hb
      exact hb ▸ Act.passed_of_event he
    · rcases a.nextEntry_le s k with hle | rfl
      · omega
      · have hj2 : j = k + 1 := by
          have : Act.sampleBusy.nextEntry s k ≤ k + 2 := by simp only [Act.nextEntry]; split <;> omega
          omega
        subst hj2
        simp only [Act.write_params, State.observe_params, samplesPaired_script s.params i k ha, Option.some.injEq] at hb
        subst hb
        trivial
  · rintro bus dc rst busy cs hz rfl -
    simpa using init_lines_driven h hk ha he

/-- A script entry keeps the state consistent. -/
theorem Consistent.perform {s t : State} (h : Consistent s) (hm : 1 ≤ s.params.maxTxn) {i : Instr} {k : Nat} {a : Act}
    (hk : s.At i k) (ha : (script s.params i)[k]? = some a) (hp : perform a k s = .next t) : Consistent t := by
  have hobserve : ∀ e, a.event s = some e → Consistent (s.observe e) := by
    intro e he
    refine h.observe fun bytes hb => ?_
    subst hb
    obtain rfl := Act.eq_xfer_of_event he
    exact length_of_xfer_mem_script hm (List.mem_of_getElem? ha)
  rcases perform_next hp with ⟨he, hpassed, rfl⟩ | ⟨-, r, rfl⟩ | ⟨e, he, -, rfl⟩ | ⟨e, c, he, -, -, rfl⟩
  · exact h.passCheck hk ha he hpassed
  · exact h.finish r
  · exact h.passEvent hk ha he (hobserve e he)
  · exact (hobserve e he).finish _

/-- A well-formed configuration has transactions of at least one byte (R7). -/
theorem maxTxn_pos_of_configOk {p : Params} (h : configOk p = true) : 1 ≤ p.maxTxn := by
  simp only [configOk, Bool.and_eq_true, decide_eq_true_eq] at h
  obtain ⟨⟨⟨⟨-, hm⟩, -⟩, -⟩, -⟩ := h
  exact hm

/-- Settles O18, from the consistency of each update a step is made of. -/
theorem stepKeepsConsistent : Obligations.StepKeepsConsistent := by
  intro s t h hs
  obtain ⟨u, hu, rfl | ⟨r, rfl⟩ | ⟨i, hi, -, rfl⟩ | ⟨i, k, a, hc, hk, ha, hp⟩ | rfl⟩ := step_next hs
  · exact h.movesTo hu
  · exact (h.movesTo hu).respond r
  · exact (h.movesTo hu).accept hi
  · exact (h.movesTo hu).perform (maxTxn_pos_of_configOk hc) hk ha hp
  · exact (h.movesTo hu).finish .ok

end Sys2Proof.Machine
end

section
/-! What a step adds and what it writes (O15, O21–O25): the trace and the responses only grow, the configuration and the
environment's choices stand, and the driver's registers change at an acquisition or a release of the bus alone. -/

namespace Sys2Proof.Machine

/-! ## Growth of the trace and the responses -/

/-- A script entry adds at most one event and at most one response (R21). -/
theorem perform_adds {a : Act} {k : Nat} {s t : State} (h : perform a k s = .next t) :
    (t.trace = s.trace ∨ ∃ e, t.trace = s.trace ++ [e])
    ∧ (t.responses = s.responses ∨ ∃ r, t.responses = s.responses ++ [r]) := by
  rcases perform_next h with ⟨-, -, rfl⟩ | ⟨-, r, rfl⟩ | ⟨e, -, -, rfl⟩ | ⟨e, c, -, -, -, rfl⟩
  · exact ⟨.inl rfl, .inl rfl⟩
  · exact ⟨.inl rfl, .inr ⟨r, rfl⟩⟩
  · exact ⟨.inr ⟨e, by simp⟩, .inl (by simp)⟩
  · exact ⟨.inr ⟨e, by simp⟩, .inr ⟨.busError c, by simp⟩⟩

/-- Settles O15: of the things a step can be, only a script entry makes an event. -/
theorem stepAddsAtMostOneEvent : Obligations.StepAddsAtMostOneEvent := by
  intro s t h
  obtain ⟨u, ⟨rs, ts, n, rfl⟩, rfl | ⟨r, rfl⟩ | ⟨i, -, -, rfl⟩ | ⟨i, k, a, -, -, -, hp⟩ | rfl⟩ := step_next h
  · exact ⟨.inl rfl, .inl rfl⟩
  · exact ⟨.inl rfl, .inr ⟨r, rfl⟩⟩
  · exact ⟨.inl rfl, .inl rfl⟩
  · exact (perform_adds hp :)
  · exact ⟨.inl rfl, .inr ⟨.ok, rfl⟩⟩

/-! ## The configuration and the agents around the block -/

/-- A script entry writes neither the configuration nor the host's requests nor the packer's turns (R31, R39). -/
theorem perform_keeps_environment {a : Act} {k : Nat} {s t : State} (h : perform a k s = .next t) :
    t.requests = s.requests ∧ t.turns = s.turns ∧ t.turnCount = s.turnCount ∧ t.params = s.params := by
  rcases perform_next h with ⟨-, -, rfl⟩ | ⟨-, r, rfl⟩ | ⟨e, -, -, rfl⟩ | ⟨e, c, -, -, -, rfl⟩ <;> simp

/-- Settles O23: no update a step is made of touches the parameters. -/
theorem configurationIsNeverWritten : Obligations.ConfigurationIsNeverWritten := by
  intro s t h
  obtain ⟨u, ⟨rs, ts, n, rfl⟩, rfl | ⟨r, rfl⟩ | ⟨i, -, -, rfl⟩ | ⟨i, k, a, -, -, -, hp⟩ | rfl⟩ := step_next h
  · rfl
  · rfl
  · rfl
  · obtain ⟨-, -, -, hparams⟩ := perform_keeps_environment hp
    exact hparams
  · rfl

/-! ## Who owns the bus -/

/-- From `s` to `t` the driver's registers stand, and the bus was neither acquired nor released (R24, R26, R27). -/
structure KeepsOwnership (s t : State) : Prop where
  drv : t.drv = s.drv
  cfg : t.cfg = s.cfg
  held : t.busHeld = s.busHeld
  noAcquire : s.outcome = .ok → ∀ bus hz, t.trace ≠ s.trace ++ [.acquireBus bus hz]
  noRelease : t.trace ≠ s.trace ++ [.releaseBus]

/-- From `s` to `t` the bus was acquired for `cfg` (R121). -/
structure AcquiresBus (cfg : PanelConfig) (s t : State) : Prop where
  drawn : s.outcome = .ok
  drv : t.drv = .ready
  captured : t.cfg = some cfg
  held : t.busHeld = true
  trace : t.trace = s.trace ++ [.acquireBus cfg.busHost (effectiveClock s.params cfg)]
  responses : t.responses = s.responses

/-- From `s` to `t` the bus was released (R124). -/
structure ReleasesBus (s t : State) : Prop where
  drv : t.drv = .uninitialized
  cfg : t.cfg = none
  held : t.busHeld = false
  trace : t.trace = s.trace ++ [.releaseBus]
  responses : t.responses = s.responses

/-- Where no event is made, ownership is kept as the registers are. -/
theorem KeepsOwnership.of_trace {s t : State} (hdrv : t.drv = s.drv) (hcfg : t.cfg = s.cfg)
    (hheld : t.busHeld = s.busHeld) (htrace : t.trace = s.trace) : KeepsOwnership s t :=
  ⟨hdrv, hcfg, hheld, fun _ _ _ h => by simp [htrace] at h, fun h => by simp [htrace] at h⟩

/-- A script entry acquires the bus, releases it, or keeps who owns it. -/
theorem perform_ownership {a : Act} {k : Nat} {s t : State} (h : perform a k s = .next t) :
    KeepsOwnership s t ∨ (∃ cfg, a = .acquireBus cfg ∧ AcquiresBus cfg s t) ∨ (a = .releaseBus ∧ ReleasesBus s t) := by
  rcases perform_next h with ⟨-, -, rfl⟩ | ⟨-, r, rfl⟩ | ⟨e, he, hd, rfl⟩ | ⟨e, c, he, hd, hc, rfl⟩
  · exact .inl (.of_trace rfl rfl rfl rfl)
  · exact .inl (.of_trace rfl rfl rfl rfl)
  · cases a with
    | acquireBus cfg => cases he; exact .inr (.inl ⟨cfg, rfl, hd, rfl, rfl, rfl, rfl, rfl⟩)
    | releaseBus => cases he; exact .inr (.inr ⟨rfl, rfl, rfl, rfl, rfl, rfl⟩)
    | _ =>
      cases he
      all_goals exact .inl ⟨by simp [Act.write], by simp [Act.write], by simp [Act.write], by simp, by simp⟩
  · refine .inl ⟨by simp, by simp, by simp, by simp [hc], ?_⟩
    have hne : e ≠ .releaseBus := fun hr => hd (by rw [hr]; trivial)
    simpa using hne

/-- A step acquires the bus for an `init` in flight, releases it for a `deinit` in flight, or keeps who owns it (R27). -/
theorem step_ownership {s t : State} (h : step s = .next t) :
    KeepsOwnership s t
    ∨ (∃ cfg, s.cur = some (.init cfg.busHost cfg.dcLine cfg.rstLine cfg.busyLine cfg.csLine cfg.clockHz)
        ∧ AcquiresBus cfg s t)
    ∨ (s.cur = some .deinit ∧ ReleasesBus s t) := by
  obtain ⟨u, ⟨rs, ts, n, rfl⟩, rfl | ⟨r, rfl⟩ | ⟨i, -, -, rfl⟩ | ⟨i, k, a, -, ⟨hq, -⟩, ha, hp⟩ | rfl⟩ := step_next h
  · exact .inl (.of_trace rfl rfl rfl rfl)
  · exact .inl (.of_trace rfl rfl rfl rfl)
  · exact .inl (.of_trace rfl rfl rfl rfl)
  · rcases perform_ownership hp with hk | ⟨cfg, rfl, hacq⟩ | ⟨rfl, hrel⟩
    · exact .inl ⟨hk.drv, hk.cfg, hk.held, hk.noAcquire, hk.noRelease⟩
    · obtain rfl := acquireBus_mem_script (List.mem_of_getElem? ha)
      exact .inr (.inl ⟨cfg, hq, hacq.drawn, hacq.drv, hacq.captured, hacq.held, hacq.trace, hacq.responses⟩)
    · obtain rfl := releaseBus_mem_script (List.mem_of_getElem? ha)
      exact .inr (.inr ⟨hq, hrel.drv, hrel.cfg, hrel.held, hrel.trace, hrel.responses⟩)
  · exact .inl (.of_trace rfl rfl rfl rfl)

/-- Settles O21: an acquisition and a release are the only writes to `S.drv`, and neither sends a response. -/
theorem driverStateIsWrittenOnlyByInitAndDeinit : Obligations.DriverStateIsWrittenOnlyByInitAndDeinit := by
  intro s t h
  rcases step_ownership h with hk | ⟨cfg, hq, hacq⟩ | ⟨hq, hrel⟩
  · exact ⟨.inl hk.drv, fun _ _ _ => hk.drv⟩
  · refine ⟨?_, fun r hr => by simp [hacq.responses] at hr⟩
    cases hd : s.drv with
    | ready => exact .inl hacq.drv
    | uninitialized => exact .inr (.inl ⟨rfl, hacq.drv, hacq.drawn, _, _, _, _, _, _, hq⟩)
  · refine ⟨?_, fun r hr => by simp [hrel.responses] at hr⟩
    cases hd : s.drv with
    | ready => exact .inr (.inr ⟨rfl, hrel.drv, hq⟩)
    | uninitialized => exact .inl hrel.drv

/-- Settles O22: the three ways of `step_ownership`, read off `S.busHeld` and the event added. -/
theorem busIsHeldFromAcquireToRelease : Obligations.BusIsHeldFromAcquireToRelease := by
  intro s t h
  rcases step_ownership h with hk | ⟨cfg, hq, hacq⟩ | ⟨hq, hrel⟩
  · refine ⟨fun hs => by rw [hk.held, hk.drv]; exact hs, fun hs => ?_, fun hs => ?_⟩
    · rw [hk.held, hs]
      exact iff_of_false Bool.false_ne_true fun ⟨ho, _, bus, hz, ht⟩ => hk.noAcquire ho bus hz ht
    · rw [hk.held, hs]
      exact iff_of_false (Ne.symm Bool.false_ne_true) fun ⟨_, ht⟩ => hk.noRelease ht
  · refine ⟨fun _ => iff_of_true hacq.held hacq.drv, fun _ => ?_, fun _ => ?_⟩
    · exact iff_of_true hacq.held ⟨hacq.drawn, ⟨_, _, _, _, _, _, hq⟩, _, _, hacq.trace⟩
    · exact iff_of_false (by simp [hacq.held]) (by simp [hq])
  · refine ⟨fun _ => iff_of_false (by simp [hrel.held]) (by simp [hrel.drv]), fun _ => ?_, fun _ => ?_⟩
    · exact iff_of_false (by simp [hrel.held]) (by simp [hq])
    · exact iff_of_true hrel.held ⟨hq, hrel.trace⟩

/-- Settles O24: an acquisition captures the arguments of the `init` in flight, a release clears them. -/
theorem panelConfigIsWrittenOnlyByInitAndDeinit : Obligations.PanelConfigIsWrittenOnlyByInitAndDeinit := by
  intro s t h
  rcases step_ownership h with hk | ⟨cfg, hq, hacq⟩ | ⟨hq, hrel⟩
  · exact .inl hk.cfg
  · exact .inr (.inl ⟨_, _, _, _, _, _, hq, hacq.captured⟩)
  · exact .inr (.inr ⟨hq, hrel.cfg⟩)

/-! ## What each instruction writes -/

/-- An instruction other than `pack` that answers a next state was accepted, ended with `Ok`, or performed an act of its
own or one that sends (R109, R250). -/
theorem exec_next {i : Instr} {s t : State} (hi : isPack i = false) (h : exec i s = .next t) :
    t = s.accept i ∨ t = s.finish .ok
    ∨ ∃ k a, (a ∈ ownActs s.params i ∨ a.Sends s.params) ∧ perform a k s = .next t := by
  cases hf : i.isFrame with
  | true =>
    obtain ⟨q, k, j, a, -, -, ha, hp⟩ := exec_frame_cases hf h
    exact .inr (.inr ⟨k, a, .inr (sends_of_mem_frameActs (List.mem_of_getElem? ha)), hp⟩)
  | false =>
    rcases exec_cases (by simp [isOperation, hi, hf]) h with ⟨-, rfl⟩ | ⟨k, -, ⟨a, ha, hp⟩ | ⟨-, rfl⟩⟩
    · exact .inl rfl
    · exact .inr (.inr ⟨k, a, ownActs_or_sends (List.mem_of_getElem? ha), hp⟩)
    · exact .inr (.inl rfl)

/-- No instruction writes the host's requests, the packer's turns or the configuration (R39). -/
theorem exec_keeps_environment {i : Instr} {s t : State} (h : exec i s = .next t) :
    t.requests = s.requests ∧ t.turns = s.turns ∧ t.turnCount = s.turnCount ∧ t.params = s.params := by
  cases hi : isPack i with
  | true =>
    obtain ⟨r, rfl⟩ := exec_pack_cases hi h
    exact ⟨rfl, rfl, rfl, rfl⟩
  | false =>
    rcases exec_next hi h with rfl | rfl | ⟨k, a, -, hp⟩
    · exact ⟨rfl, rfl, rfl, rfl⟩
    · exact ⟨rfl, rfl, rfl, rfl⟩
    · exact perform_keeps_environment hp

/-- An instruction that neither acquires nor releases the bus among its own acts keeps the driver's registers (R39). -/
theorem exec_keeps_ownership {i : Instr} {s t : State} (hi : isPack i = false)
    (hacq : ∀ cfg, .acquireBus cfg ∉ ownActs s.params i) (hrel : .releaseBus ∉ ownActs s.params i)
    (h : exec i s = .next t) : t.drv = s.drv ∧ t.cfg = s.cfg ∧ t.busHeld = s.busHeld := by
  rcases exec_next hi h with rfl | rfl | ⟨k, a, ha, hp⟩
  · exact ⟨rfl, rfl, rfl⟩
  · exact ⟨rfl, rfl, rfl⟩
  · rcases perform_ownership hp with hk | ⟨cfg, rfl, -⟩ | ⟨rfl, -⟩
    · exact ⟨hk.drv, hk.cfg, hk.held⟩
    · rcases ha with ha | ha
      · exact absurd ha (hacq cfg)
      · cases ha
    · rcases ha with ha | ha
      · exact absurd ha hrel
      · cases ha

/-- Checks and the acts of frames leave RST as it is (R39). -/
theorem perform_keeps_rstLvl {a : Act} {k : Nat} {s t : State} (ha : a.isCheck = true ∨ a.Sends s.params)
    (h : perform a k s = .next t) : t.rstLvl = s.rstLvl := by
  have hobserve : ∀ e, a.event s = some e → (s.observe e).rstLvl = s.rstLvl := by
    intro e he
    cases a with
    | setLine line level =>
      cases he
      obtain rfl : line = .dc := ha.resolve_left Bool.false_ne_true
      rfl
    | configLines => cases ha <;> contradiction
    | _ => cases he <;> rfl
  rcases perform_next h with ⟨-, -, rfl⟩ | ⟨-, r, rfl⟩ | ⟨e, he, -, rfl⟩ | ⟨e, c, he, -, -, rfl⟩
  · rfl
  · rfl
  · simpa using hobserve e he
  · simpa using hobserve e he

/-- An instruction whose own acts are checks writes no register of the driver but `S.dcLvl` (R39). -/
theorem exec_writes_dcLvl_alone {i : Instr} {s t : State} (hi : isPack i = false)
    (hown : ∀ a ∈ ownActs s.params i, a.isCheck = true) (h : exec i s = .next t) :
    t.drv = s.drv ∧ t.cfg = s.cfg ∧ t.busHeld = s.busHeld ∧ t.rstLvl = s.rstLvl := by
  obtain ⟨hdrv, hcfg, hheld⟩ := exec_keeps_ownership hi (fun cfg hm => nomatch hown _ hm) (fun hm => nomatch hown _ hm) h
  refine ⟨hdrv, hcfg, hheld, ?_⟩
  rcases exec_next hi h with rfl | rfl | ⟨k, a, ha, hp⟩
  · rfl
  · rfl
  · exact perform_keeps_rstLvl (ha.imp_left (hown a)) hp

theorem isPack_of_isFrame {f : Instr} (hf : f.isFrame = true) : isPack f = false := by
  cases f
  case pack => cases hf
  all_goals rfl

/-- A frame writes no register of the driver but `S.dcLvl` (R250). -/
theorem exec_frame_writes_dcLvl_alone {f : Instr} {s t : State} (hf : f.isFrame = true) (h : exec f s = .next t) :
    t.drv = s.drv ∧ t.cfg = s.cfg ∧ t.busHeld = s.busHeld ∧ t.rstLvl = s.rstLvl := by
  have hop : isOperation f = false := by simp [isOperation, hf]
  exact exec_writes_dcLvl_alone (isPack_of_isFrame hf) (by simp [ownActs_nil hop]) h

/-- `deinit` drives no line and takes no draw (R124). -/
theorem exec_deinit_keeps_lines {s t : State} (h : exec .deinit s = .next t) :
    t.dcLvl = s.dcLvl ∧ t.rstLvl = s.rstLvl ∧ t.outcomes = s.outcomes ∧ t.busyLevels = s.busyLevels := by
  rcases exec_cases rfl h with ⟨-, rfl⟩ | ⟨k, -, ⟨a, ha, hp⟩ | ⟨-, rfl⟩⟩
  · exact ⟨rfl, rfl, rfl, rfl⟩
  · have hmem := List.mem_of_getElem? ha
    simp only [script_deinit, List.mem_cons, List.not_mem_nil, or_false] at hmem
    rcases perform_next hp with ⟨-, -, rfl⟩ | ⟨-, r, rfl⟩ | ⟨e, he, -, rfl⟩ | ⟨e, c, he, hd, -, rfl⟩
    · exact ⟨rfl, rfl, rfl, rfl⟩
    · exact ⟨rfl, rfl, rfl, rfl⟩
    · rcases hmem with rfl | rfl
      · cases he
      · cases he
        exact ⟨rfl, rfl, rfl, rfl⟩
    · rcases hmem with rfl | rfl
      · cases he
      · cases he
        exact absurd trivial hd
  · exact ⟨rfl, rfl, rfl, rfl⟩

/-- Settles O25: the instructions by what their own acts are. -/
theorem instructionsWriteOnlyTheseRegisters : Obligations.InstructionsWriteOnlyTheseRegisters := by
  intro i s t h
  obtain ⟨hreq, hturns, hcount, hparams⟩ := exec_keeps_environment h
  refine ⟨hreq, hturns, hcount, hparams, ?_⟩
  cases i
  case init => trivial
  case deinit => exact exec_deinit_keeps_lines h
  case hardwareInit | drawRegion =>
    exact exec_keeps_ownership rfl (by simp [drawChecks, resetPulse, waitBusy]) (by simp [drawChecks, resetPulse, waitBusy]) h
  case pack => exact exec_pack_cases rfl h
  case clear | loadBaseMap | triggerRefresh | deepSleep =>
    exact exec_writes_dcLvl_alone rfl (by simp [Act.isCheck]) h
  all_goals exact exec_frame_writes_dcLvl_alone rfl h

end Sys2Proof.Machine
end

section
/-! Running an operation from an idle block (O26, O30, O39, O43): its checks pass one by one, its events follow, and the
end of the script answers `Ok`. -/

namespace Sys2Proof.Machine

/-! ## Checks that pass -/

/-- The check holds at `s`, so that the operation goes on; an entry that is no check holds nowhere. -/
def Act.Holds (s : State) : Act → Prop
  | .requireReady => s.drv = .ready
  | .requireUninitialized => s.drv = .uninitialized
  | .returnIfUninitialized => s.drv = .ready
  | .requireArg holds => holds = true
  | .requireWindow holds => holds = true
  | _ => False

theorem Act.holds_goto {s : State} {a : Act} (h : a.Holds s) (k : Nat) : a.Holds (s.goto k) := by
  cases a <;> exact h

theorem Act.holds_accept {s : State} {a : Act} (h : a.Holds s) (i : Instr) : a.Holds (s.accept i) := by
  cases a <;> exact h

/-- A check that holds moves the step pointer and nothing else (R21). -/
theorem perform_of_holds {a : Act} {s : State} (h : a.Holds s) (k : Nat) : perform a k s = .next (s.goto (k + 1)) := by
  cases a with
  | requireReady | requireUninitialized | returnIfUninitialized | requireArg | requireWindow =>
    simp only [Act.Holds] at h
    simp [perform, h]
  | _ => cases h

theorem State.At.goto_self {s : State} {i : Instr} {k : Nat} (h : s.At i k) : s.goto k = s := by
  obtain ⟨-, hpc⟩ := h
  rw [State.goto, ← hpc]

/-- Checks in a row that hold are all passed. -/
theorem reaches_checks {i : Instr} (hi : isOperation i = true) {cs pre post : List Act} {s : State} (hk : s.At i pre.length)
    (hs : script s.params i = pre ++ (cs ++ post)) (hc : ∀ a ∈ cs, a.Holds s) :
    Reaches i s (s.goto (pre.length + cs.length)) := by
  induction cs generalizing s pre with
  | nil =>
    rw [List.length_nil, Nat.add_zero, hk.goto_self]
    exact .refl i s
  | cons a rest ih =>
    have hstep : exec i s = .next (s.goto (pre.length + 1)) := by
      rw [exec_entry hi hk (a := a) (by simp [hs]), perform_of_holds (hc a (.head _))]
    refine (Reaches.step hstep).trans ?_
    have := ih (s := s.goto (pre.length + 1)) (pre := pre ++ [a]) ⟨by simp [hk.1], by simp⟩ (by simp [hs])
      fun b hb => Act.holds_goto (hc b (.tail _ hb)) _
    simpa [Nat.add_assoc, Nat.add_comm 1] using this

/-- From an idle block an operation whose leading checks hold stands past them, with nothing emitted (R109). -/
theorem Reaches.acceptAndCheck {i : Instr} (hi : isOperation i = true) {cs post : List Act} {s : State} (hidle : s.Idle)
    (hs : script s.params i = cs ++ post) (hc : ∀ a ∈ cs, a.Holds s) : Reaches i s ((s.accept i).goto cs.length) := by
  have := reaches_checks hi (s := s.accept i) (pre := []) ⟨rfl, rfl⟩ hs fun a ha => Act.holds_accept (hc a ha) i
  simpa using (Reaches.accept hi hidle).trans this

/-- From an idle block an operation whose checks hold makes the events its acts follow, when the environment supplies
their draws, and ends with `Ok` (R109). -/
theorem Reaches.completes {i : Instr} (hi : isOperation i = true) {cs acts : List Act} {tr : List Event} {s : State}
    (hidle : s.Idle) (hs : script s.params i = cs ++ acts) (hc : ∀ a ∈ cs, a.Holds s) (hf : Follows s.params acts tr)
    (hd : Supplies s tr) : Reaches i s ((s.observeAll tr).finish .ok) := by
  have hchecks := Reaches.acceptAndCheck hi hidle hs hc
  have hevents := hf.reaches (s := (s.accept i).goto cs.length) (post := []) (.operation _ hi 0 (cs.length + acts.length)) rfl
    (Nat.zero_le _) (Nat.le_refl _) ⟨rfl, rfl⟩ (by simpa using hs) ((Supplies_goto _ _ _).2 ((Supplies_accept _ _ _).2 hd))
  have hend := Reaches.finish hi (s := (((s.accept i).goto cs.length).observeAll tr).goto (cs.length + acts.length))
    (k := cs.length + acts.length) ⟨by simp, rfl⟩ (by simp [hs])
  simpa [State.observeAll_goto, State.observeAll_accept] using (hchecks.trans hevents).trans hend

/-! ## Line levels along a trace -/

/-- A busy wait drives no line (R104). -/
theorem observeAll_waitTrace_levels (p : Params) (n : Nat) (s : State) :
    (s.observeAll (waitTrace p n)).dcLvl = s.dcLvl ∧ (s.observeAll (waitTrace p n)).rstLvl = s.rstLvl := by
  induction n generalizing s with
  | zero => exact ⟨rfl, rfl⟩
  | succ n ih => exact ih ((s.observe (.sampleBusy .high)).observe (.delay p.busyPollMs))

/-- Acts that send leave RST as it is (R250). -/
theorem Follows.rstLvl {p : Params} {acts : List Act} {tr : List Event} (h : Follows p acts tr)
    (hsends : ∀ a ∈ acts, a.Sends p) (s : State) : (s.observeAll tr).rstLvl = s.rstLvl := by
  induction h generalizing s with
  | nil => rfl
  | setLine line level _ ih =>
    obtain rfl : line = .dc := hsends _ (.head _)
    exact ih (fun a ha => hsends a (.tail _ ha)) _
  | xfer bytes _ ih => exact ih (fun a ha => hsends a (.tail _ ha)) _
  | delay ms _ _ => exact (hsends _ (.head _)).elim
  | wait n _ ih =>
    rw [State.observeAll_append, ih fun a ha => hsends a (List.mem_append_right _ ha)]
    exact (observeAll_waitTrace_levels p n s).2

/-- Every act of a list of frames sends. -/
theorem sends_of_mem_flatten {p : Params} {ps : List Piece} (hps : ps.flatMap Piece.ownActs = []) {a : Act}
    (h : a ∈ flatten p ps) : a.Sends p := by
  obtain ⟨x, hx, ha⟩ := List.mem_flatMap.1 h
  cases x with
  | own acts =>
    have hnil : acts = [] := List.flatMap_eq_nil_iff.1 hps _ hx
    rw [pieceActs_own, hnil] at ha
    cases ha
  | frame f => exact sends_of_mem_frameActs ha

/-- A refresh ends with DC at the command level: its last frame, MASTER_TRIGGER, has no payload (R268). -/
theorem observeAll_triggerTrace_dcLvl (p : Params) (t : List Byte) (ctrl : Byte) (n m : Nat) (s : State) :
    (s.observeAll (triggerTrace p t ctrl n m)).dcLvl = .driven p.dcCmdLevel := by
  rw [triggerTrace, State.observeAll_append, (observeAll_waitTrace_levels p m _).1, State.observeAll_append]
  simp [frameTrace, chunks_nil, State.observe]

/-! ## `clear` and `triggerRefresh` -/

/-- The pieces of `clear` past its check. -/
def clearFrames (p : Params) (fill : Byte) : List Piece :=
  setFullWindow p ++ [.frame (.writeRamOld (List.replicate p.frameBytes fill))] ++ fullTrigger p

theorem script_clear (p : Params) (fill : Byte) :
    script p (.clear fill) = [.requireReady] ++ flatten p (clearFrames p fill) := rfl

theorem script_triggerRefresh (p : Params) :
    script p .triggerRefresh = [.requireReady] ++ flatten p (partialTrigger p) := rfl

/-- The frames of `clear` make the events of its rule (R160). -/
theorem Follows.ofClearFrames (p : Params) (fill : Byte) (n m : Nat) :
    Follows p (flatten p (clearFrames p fill)) (clearTrace p fill n m) := by
  simpa [clearFrames, setFullWindow, clearTrace, fullWindowTrace, frameActs, writeRamOldActs] using
    (Follows.ofSetWindow p 0 (p.w - 1) 0 (p.h - 1)).append
      ((Follows.ofCmd p 0x24 (List.replicate p.frameBytes fill)).append (.ofFullTrigger p n m))

/-- Settles O39: the frames of `clear` follow its trace, leave RST alone, and end with a full refresh. -/
theorem clearFillsTheFrameAndRefreshes : Obligations.ClearFillsTheFrameAndRefreshes := by
  intro fill s n m hidle hready hd
  have hf := Follows.ofClearFrames s.params fill n m
  refine ⟨?_, ?_, ?_, rfl⟩
  · exact .completes rfl hidle (script_clear s.params fill) (by simpa [Act.Holds] using hready) hf hd
  · exact hf.rstLvl (fun a ha => sends_of_mem_flatten rfl ha) s
  · rw [clearTrace, State.observeAll_append]
    exact observeAll_triggerTrace_dcLvl s.params _ _ n m _

/-- A byte inside a waveform table is the table's own (R32). -/
theorem getElem?_romByte {t : List Byte} {i : Nat} (h : i < t.length) : t[i]? = some (romByte t i) := by
  simp [romByte, h]

/-- A slice inside a waveform table is the table's own part (R9, R75). -/
theorem romSlice_eq_take {t : List Byte} {off n : Nat} (h : off + n ≤ t.length) : romSlice t off n = (t.drop off).take n := by
  apply List.ext_getElem
  · simp [romSlice]; omega
  · intro j h1 h2
    have hj : off + j < t.length := by simp at h2; omega
    simp [romSlice, romByte, hj]

/-- A byte of a table is a slice of one byte. -/
theorem romSlice_one (t : List Byte) (off : Nat) : romSlice t off 1 = [romByte t off] := rfl

/-- What a refresh sends of its table, at the offsets of R32 (R180). -/
theorem triggerTrace_eq {p : Params} {t : List Byte} (hmain : p.lutMainOff = 0) (hlen : p.lutMainLen = 105)
    (hgate : p.lutGateOff = 105) (hsource : p.lutSourceOff = 106) (hvcom : p.lutVcomOff = 109) (ht : t.length = 112)
    (ctrl : Byte) (n m : Nat) :
    triggerTrace p t ctrl n m = frameTrace p 0x32 (t.take 105) ++ waitTrace p n
      ++ frameTrace p 0x03 ((t.drop 105).take 1) ++ frameTrace p 0x04 ((t.drop 106).take 3)
      ++ frameTrace p 0x2C ((t.drop 109).take 1)
      ++ frameTrace p 0x22 [ctrl] ++ frameTrace p 0x20 [] ++ waitTrace p m := by
  have hslice : ∀ off k, off + k ≤ 112 → romSlice t off k = (t.drop off).take k := fun off k h =>
    romSlice_eq_take (by omega)
  rw [triggerTrace, lutTrace, hmain, hlen, hgate, hsource, hvcom, ← romSlice_one, ← romSlice_one, hslice 0 105 (by omega),
    hslice 105 1 (by omega), hslice 106 3 (by omega), hslice 109 1 (by omega), List.drop_zero]

/-- Settles O43: the frames of the partial refresh follow its trace, and the reads of a table are parts of it. -/
theorem triggerRefreshRunsThePartialTrigger : Obligations.TriggerRefreshRunsThePartialTrigger := by
  refine ⟨fun s n m hidle hready hd => ?_, fun p n m hmain hlen hgate hsource hvcom hdefault hfast => ?_,
    fun t i h => getElem?_romByte h, fun t off n h => romSlice_eq_take h⟩
  · have hf := Follows.ofPartialTrigger s.params n m
    exact ⟨.completes rfl hidle (script_triggerRefresh s.params) (by simpa [Act.Holds] using hready) hf hd,
      hf.rstLvl (fun a ha => sends_of_mem_flatten rfl ha) s⟩
  · exact ⟨triggerTrace_eq hmain hlen hgate hsource hvcom hfast _ n m,
      triggerTrace_eq hmain hlen hgate hsource hvcom hdefault _ n m⟩

/-! ## REQUIRE_READY -/

/-- A script that begins with REQUIRE_READY answers `InvalidState` from an idle block that is not Ready (R108). -/
theorem Reaches.invalidState {i : Instr} (hi : isOperation i = true) {rest : List Act} {s : State} (hidle : s.Idle)
    (hs : script s.params i = .requireReady :: rest) (hd : s.drv = .uninitialized) :
    Reaches i s (s.finish .invalidState) := by
  have hraise : exec i (s.accept i) = .next ((s.accept i).finish .invalidState) := by
    rw [exec_entry hi ⟨rfl, rfl⟩ (a := .requireReady) (by simp [hs])]
    simp [perform, hd, raise]
  exact (Reaches.accept hi hidle).trans (.step hraise)

/-- Settles O26: the script of each of the six operations begins with REQUIRE_READY. -/
theorem operationsBeforeInitGiveInvalidState : Obligations.OperationsBeforeInitGiveInvalidState := by
  intro i s hidle hop
  obtain ⟨hi, rest, hs⟩ : isOperation i = true ∧ ∃ rest, script s.params i = [.requireReady] ++ rest := by
    cases i
    case hardwareInit | clear | loadBaseMap | drawRegion | triggerRefresh | deepSleep => exact ⟨rfl, _, rfl⟩
    all_goals exact hop.elim
  exact ⟨.invalidState hi hidle hs, fun hready => .acceptAndCheck hi hidle hs (by simpa [Act.Holds] using hready)⟩

/-! ## `init` -/

theorem perform_acquireBus {cfg : PanelConfig} {k : Nat} {s : State} (h : s.outcome = .ok) :
    perform (.acquireBus cfg) k s =
      .next (((s.observe (.acquireBus cfg.busHost (effectiveClock s.params cfg))).acquired cfg).goto (k + 1)) := by
  simp only [perform, h]
  rfl

/-- The argument check of `init`, as its rule says it: all four identifiers are valid (R120). -/
theorem initLinesOk_iff {p : Params} {dc rst busy cs : LineId} :
    initLinesOk p dc rst busy cs = true ↔ ∀ l ∈ [dc, rst, busy, cs], l ∈ p.validLines := by
  simp [initLinesOk, lineIdValid, and_assoc]

/-- From an idle Uninitialized block with valid lines `init` configures them and stands at its acquisition (R120). -/
theorem init_reaches_acquireBus {s : State} {bus : Byte} {dc rst busy cs : LineId} {hz : U32} (hidle : s.Idle)
    (hd : s.drv = .uninitialized) (hok : initLinesOk s.params dc rst busy cs = true) :
    Reaches (.init bus dc rst busy cs hz) s
      (((s.accept (.init bus dc rst busy cs hz)).observe (.configLines dc rst busy cs)).goto 3) := by
  have hchecks : Reaches (.init bus dc rst busy cs hz) s ((s.accept (.init bus dc rst busy cs hz)).goto 2) :=
    .acceptAndCheck rfl hidle (cs := [.requireArg (initLinesOk s.params dc rst busy cs), .requireUninitialized]) rfl
      (by simp [Act.Holds, hok, hd])
  have hconfigure := exec_entry (i := .init bus dc rst busy cs hz) rfl
    (s := (s.accept (.init bus dc rst busy cs hz)).goto 2) ⟨rfl, rfl⟩ rfl
  exact hchecks.trans (.step hconfigure)

/-- At its acquisition `init` acquires the bus when the outcome drawn is ok, and ends with `Ok` (R121). -/
theorem init_acquires {s : State} {bus : Byte} {dc rst busy cs : LineId} {hz : U32}
    (hk : s.At (.init bus dc rst busy cs hz) 3) (ho : s.outcome = .ok) :
    Reaches (.init bus dc rst busy cs hz) s
      (((s.observe (.acquireBus bus (effectiveClock s.params ⟨bus, dc, rst, busy, cs, hz⟩))).acquired
        ⟨bus, dc, rst, busy, cs, hz⟩).finish .ok) := by
  have hacquire := (exec_entry rfl hk rfl).trans (perform_acquireBus ho)
  have hend := Reaches.finish (i := .init bus dc rst busy cs hz) rfl (k := 4)
    (s := ((s.observe (.acquireBus bus (effectiveClock s.params ⟨bus, dc, rst, busy, cs, hz⟩))).acquired
      ⟨bus, dc, rst, busy, cs, hz⟩).goto 4) ⟨hk.1, rfl⟩ (Nat.le_refl 4)
  exact (Reaches.step hacquire).trans hend

/-- An idle state has nothing in flight to change. -/
theorem State.Idle.clear_inFlight {s : State} (h : s.Idle) : { s with cur := none, pc := .idle } = s := by
  obtain ⟨hcur, hpc⟩ := h
  rw [← hcur, ← hpc]

/-- Settles O30: `init` reaches its acquisition and acquires the bus. -/
theorem initSucceeds : Obligations.InitSucceeds := by
  intro s bus dc rst busy cs hz hidle hd hlines ho
  have hrun := (init_reaches_acquireBus (bus := bus) (hz := hz) hidle hd (initLinesOk_iff.2 hlines)).trans
    (init_acquires ⟨rfl, rfl⟩ ho)
  rw [← hidle.clear_inFlight] at hrun ⊢
  simpa [State.observe, State.emit, State.drive, State.accept, State.goto, State.finish, effectiveClock, Response.ok] using hrun

end Sys2Proof.Machine
end

section
/-! That the bytes 110 and 111 of a waveform table reach nothing (O44): the pieces of an operation read the tables at the
offsets of R32 alone, and everything else a step does is indifferent to them. -/

namespace Sys2Proof.Machine

/-- The configuration with other waveform tables. -/
def withTables (d f : List Byte) (p : Params) : Params := { p with wfDefault := d, wfFast := f }

/-- The state with other waveform tables. -/
def State.withTables (d f : List Byte) (s : State) : State := { s with params := Machine.withTables d f s.params }

/-- The answer with other waveform tables in its next state. -/
def Answer.withTables (d f : List Byte) : Answer → Answer
  | .next t => .next (t.withTables d f)
  | .fault r => .fault r
  | .refused r => .refused r

/-- The offsets of R32. -/
structure TableOffsets (p : Params) : Prop where
  main : p.lutMainOff = 0
  mainLen : p.lutMainLen = 105
  gate : p.lutGateOff = 105
  source : p.lutSourceOff = 106
  vcom : p.lutVcomOff = 109

/-! ## What the pieces read of a table -/

theorem romByte_congr {t u : List Byte} (h : t.take 110 = u.take 110) {i : Nat} (hi : i < 110) : romByte t i = romByte u i := by
  have hget : t[i]? = u[i]? := by rw [← List.getElem?_take_of_lt hi, h, List.getElem?_take_of_lt hi]
  simp [romByte, List.getD_eq_getElem?_getD, hget]

theorem romSlice_congr {t u : List Byte} (h : t.take 110 = u.take 110) {off n : Nat} (hn : off + n ≤ 110) :
    romSlice t off n = romSlice u off n := by
  refine List.map_congr_left fun j hj => romByte_congr h ?_
  have := List.mem_range.1 hj
  omega

/-- LOAD_LUT reads the first 110 bytes of its table (R180, R186). -/
theorem loadLut_congr {p : Params} (hp : TableOffsets p) {t u : List Byte} (h : t.take 110 = u.take 110) :
    loadLut p t = loadLut p u := by
  simp only [loadLut, hp.main, hp.mainLen, hp.gate, hp.source, hp.vcom]
  rw [romSlice_congr h (by omega), romByte_congr h (by omega), romByte_congr (i := 106) h (by omega),
    romByte_congr (i := 106 + 1) h (by omega), romByte_congr (i := 106 + 2) h (by omega),
    romByte_congr (i := 109) h (by omega)]

section
variable {p : Params} {d f : List Byte} (hp : TableOffsets p) (hd : d.take 110 = p.wfDefault.take 110)
  (hf : f.take 110 = p.wfFast.take 110)
include hp

include hd in
theorem fullTrigger_withTables : fullTrigger (withTables d f p) = fullTrigger p :=
  congrArg (· ++ updateAndTrigger p.fullCtrl) (loadLut_congr hp hd)

include hf in
theorem partialTrigger_withTables : partialTrigger (withTables d f p) = partialTrigger p :=
  congrArg (· ++ updateAndTrigger p.partialCtrl) (loadLut_congr hp hf)

include hd hf

/-- The pieces of an operation do not depend on the unnamed bytes of the tables (R186). -/
theorem pieces_withTables (i : Instr) : pieces (withTables d f p) i = pieces p i := by
  have hfull := fullTrigger_withTables (f := f) hp hd
  have hpartial := partialTrigger_withTables (d := d) hp hf
  cases i with
  | clear fill => simp only [pieces, clearPieces, hfull]; rfl
  | loadBaseMap data fast => simp only [pieces, loadBaseMapPieces, baseMapTrigger, hfull, hpartial]; rfl
  | drawRegion x y bits wb hr defer => simp only [pieces, drawRegionPieces, hpartial]; rfl
  | triggerRefresh => simp only [pieces, triggerRefreshPieces, hpartial]
  | _ => rfl

end

/-! ## What a step does apart from the tables -/

@[simp] theorem frameActs_withTables (d f : List Byte) (p : Params) : frameActs (withTables d f p) = frameActs p := by
  funext g
  cases g <;> rfl

@[simp] theorem flatten_withTables (d f : List Byte) (p : Params) (ps : List Piece) :
    flatten (withTables d f p) ps = flatten p ps := by
  refine List.flatMap_congr fun x _ => ?_
  cases x with
  | own acts => rfl
  | frame g => simp

@[simp] theorem frameAt_withTables (d f : List Byte) (p : Params) (ps : List Piece) (k : Nat) :
    frameAt (withTables d f p) ps k = frameAt p ps k := by
  induction ps generalizing k with
  | nil => rfl
  | cons x rest ih => cases x <;> simp [frameAt, ih]

/-- A script entry reads no table. -/
theorem perform_withTables (d f : List Byte) (a : Act) (k : Nat) (s : State) :
    perform a k (s.withTables d f) = Answer.withTables d f (perform a k s) := by
  have hdrv : (s.withTables d f).drv = s.drv := rfl
  have houtcome : (s.withTables d f).outcome = s.outcome := rfl
  have hlevel : (s.withTables d f).busyLevel = s.busyLevel := rfl
  cases a with
  | requireReady | requireUninitialized | returnIfUninitialized => simp only [perform, hdrv]; split <;> rfl
  | requireArg holds | requireWindow holds => cases holds <;> rfl
  | acquireBus | xfer => simp only [perform, houtcome]; split <;> rfl
  | sampleBusy => simp only [perform, hlevel]; split <;> rfl
  | setLine line level => cases line <;> rfl
  | configLines | releaseBus | delay | pollDelay => rfl

theorem runScript_withTables (d f : List Byte) (q : Instr) (sc : List Act) (s : State) :
    runScript q sc (s.withTables d f) = Answer.withTables d f (runScript q sc s) := by
  cases hpc : s.pc with
  | idle => rw [runScript_idle hpc, runScript_idle (s := s.withTables d f) hpc]; rfl
  | step k =>
    by_cases hq : s.cur = some q
    · have hk : s.At q k := ⟨hq, hpc⟩
      have hk' : (s.withTables d f).At q k := hk
      cases ha : sc[k]? with
      | some a => rw [runScript_entry hk ha, runScript_entry hk' ha, perform_withTables]
      | none =>
        have hlen := List.getElem?_eq_none_iff.1 ha
        rw [runScript_end hk hlen, runScript_end hk' hlen]
        rfl
    · rw [runScript_busy hpc hq, runScript_busy (s := s.withTables d f) hpc hq]
      rfl

theorem sending_withTables {s : State} {d f : List Byte} (h : ∀ i, pieces (withTables d f s.params) i = pieces s.params i) :
    (s.withTables d f).sending = s.sending := by
  cases hq : s.cur with
  | none => simp [State.sending, State.withTables, hq]
  | some q => cases hk : s.pc <;> simp [State.sending, State.withTables, hq, hk, h]

theorem runFrame_withTables {s : State} {d f : List Byte} (h : (s.withTables d f).sending = s.sending) (g : Instr)
    (acts : List Act) : runFrame g acts (s.withTables d f) = Answer.withTables d f (runFrame g acts s) := by
  have hpc : (s.withTables d f).pc = s.pc := rfl
  simp only [runFrame, h, hpc]
  split
  · split
    · exact perform_withTables d f _ _ s
    · rfl
  · rfl

/-- `exec` does not depend on the tables where the pieces do not. -/
theorem exec_withTables {s : State} {d f : List Byte} (h : ∀ i, pieces (withTables d f s.params) i = pieces s.params i)
    (i : Instr) : exec i (s.withTables d f) = Answer.withTables d f (exec i s) := by
  cases hi : isOperation i with
  | true =>
    have hscript : script (s.withTables d f).params i = script s.params i := by
      rw [script, script, State.withTables, h, flatten_withTables]
    rw [exec_script i _ hi, exec_script i s hi, hscript, runScript_withTables]
  | false =>
    cases hframe : i.isFrame with
    | true =>
      have hacts : frameActs (s.withTables d f).params i = frameActs s.params i :=
        congrFun (frameActs_withTables d f s.params) i
      rw [exec_frame i _ hframe, exec_frame i s hframe, hacts, runFrame_withTables (sending_withTables h)]
    | false =>
      have hpack : isPack i = true := by simpa [isOperation, hframe] using hi
      cases i <;> cases hpack
      rfl

/-- Settles O44: `exec` reads the tables through the pieces alone, and the pieces read their named bytes. -/
theorem unnamedTableBytesAreNeverSent : Obligations.UnnamedTableBytesAreNeverSent := by
  intro i s t d f hmain hlen hgate hsource hvcom _ _ _ _ hd hf h
  have hpieces := pieces_withTables (f := f) ⟨hmain, hlen, hgate, hsource, hvcom⟩ hd hf
  have hexec := exec_withTables hpieces i
  obtain ⟨-, -, -, hparams⟩ := exec_keeps_environment h
  rw [h, Answer.withTables, State.withTables, State.withTables, hparams] at hexec
  exact hexec

end Sys2Proof.Machine
end

section
/-! Acceptance and reset (O13, O16, O17, O19). -/

namespace Sys2Proof.Machine

/-- Settles O13: every operation runs its script, and a script begins with the acceptance. -/
theorem idleBlockAcceptsRequest : Obligations.IdleBlockAcceptsRequest := by
  intro i s hi hidle
  rw [exec_script i s hi, runScript_idle hidle.2]
  rfl

/-- The driver is seen Busy exactly while a request is in flight (R23). -/
theorem drvView_eq_busy_iff (s : State) : s.drvView = .busy ↔ s.cur ≠ none := by
  unfold State.drvView
  split
  · cases s.drv <;> simp_all
  · simp_all

/-- With nothing in flight the driver is seen as it is stored (R23). -/
theorem drvView_of_cur_none {s : State} (h : s.cur = none) :
    (s.drvView = .ready ↔ s.drv = .ready) ∧ (s.drvView = .uninitialized ↔ s.drv = .uninitialized) := by
  cases hd : s.drv <;> simp [State.drvView, h, hd]

/-- The reference configuration meets R7. -/
theorem configOk_reference : configOk Params.reference = true := by decide

/-- Settles O16: the table of R40 by its values, and the law of the driver view. -/
theorem resetLeavesTheseValues : Obligations.ResetLeavesTheseValues :=
  ⟨rfl, rfl, rfl, rfl, rfl, ⟨rfl, rfl⟩, rfl, rfl, rfl, configOk_reference,
    fun s => ⟨drvView_eq_busy_iff s, drvView_of_cur_none⟩⟩

/-- Nothing is in flight after reset (R40). -/
theorem not_at_reset (i : Instr) (k : Nat) : ¬ State.reset.At i k := by
  rintro ⟨hcur, -⟩
  cases hcur

/-- Settles O17: after reset nothing is in flight, nothing is captured and nothing is in the trace. -/
theorem resetIsConsistent : Obligations.ResetIsConsistent where
  curPc := iff_of_true rfl rfl
  operation := by rintro i hi; cases hi
  checks := fun i k _ _ hk => absurd hk (not_at_reset i k)
  held := iff_of_false Bool.false_ne_true (by rintro h; cases h)
  configured := iff_of_false Bool.false_ne_true (by rintro h; cases h)
  validLines := by rintro c hc; cases hc
  driven := by rintro h; cases h
  initDriven := fun _ _ _ _ _ _ k hk => absurd hk (not_at_reset _ _)
  transactions := by rintro bytes hb; cases hb

/-- Settles O19: the trace after reset is empty, and no script is running. -/
theorem resetIsBusDisciplined : Obligations.ResetIsBusDisciplined where
  trace := by
    intro before bytes after h
    exact absurd h.symm (by simp [State.reset])
  position := fun i k _ hk => absurd hk (not_at_reset i (k + 1))

end Sys2Proof.Machine
end

section
/-! The channels of a source pixel (O60; 46_packer.md R224, R225). -/

namespace Sys2Proof.Machine

/-! ## Reading the bytes of a pixel -/

/-- A byte read past a prefix of the source is a byte of what follows it (R53). -/
theorem memByte_append (pre rest : List Byte) (i : Nat) : memByte (pre ++ rest) (pre.length + i) = memByte rest i := by
  rw [memByte, memByte, List.getD_append_right _ _ _ _ (Nat.le_add_right _ _), Nat.add_sub_cancel_left]

/-- A pixel is read at its offset, whatever bytes stand before it (R231). -/
theorem pixelChannels_append (p : Params) (format : PixelFormat) (pre rest : List Byte) :
    pixelChannels p format (pre ++ rest) pre.length = pixelChannels p format rest 0 := by
  simp only [pixelChannels, memByte_append, Nat.zero_add]

/-! ## RGB565 -/

/-- The word of two bytes, in either byte order, as a number (R52). -/
theorem rgb565Word_eq (swap : Bool) (p0 p1 : Byte) :
    rgb565Word swap p0 p1 = if swap then p0.toNat * 256 + p1.toNat else p0.toNat + p1.toNat * 256 := by
  have h : ∀ hi lo : Byte, hi.toNat <<< 8 ||| lo.toNat = hi.toNat * 256 + lo.toNat := by
    intro hi lo
    rw [← Nat.shiftLeft_add_eq_or_of_lt lo.isLt, Nat.shiftLeft_eq]
  cases swap
  · simp [rgb565Word, Nat.or_comm p0.toNat, h, Nat.add_comm]
  · simp [rgb565Word, h]

/-- The word of two bytes has 16 bits. -/
theorem rgb565Word_lt (swap : Bool) (p0 p1 : Byte) : rgb565Word swap p0 p1 < 65536 := by
  have h0 := p0.isLt
  have h1 := p1.isLt
  rw [rgb565Word_eq]
  split <;> omega

/-- A field shifted up by `k`, its upper bits replicated below it, is a sum: the two parts share no bit (R224). -/
theorem replicateBits_eq {x k j : Nat} (h : x < 2 ^ (k + j)) : x <<< k ||| x >>> j = x * 2 ^ k + x / 2 ^ j := by
  have hlow : x >>> j < 2 ^ k := by
    rw [Nat.shiftRight_eq_div_pow]
    exact Nat.div_lt_of_lt_mul (by rwa [← Nat.pow_add, Nat.add_comm])
  rw [← Nat.shiftLeft_add_eq_or_of_lt hlow, Nat.shiftLeft_eq, Nat.shiftRight_eq_div_pow]

/-- The channels of a 16-bit word by its fields r5, g6 and b5 (R224). -/
theorem rgb565Channels_eq {v : Nat} (h : v < 65536) :
    rgb565Channels v = (v / 2048 * 8 + v / 2048 / 4, v / 32 % 64 * 4 + v / 32 % 64 / 16, v % 32 * 8 + v % 32 / 4) := by
  have hr : bitField v 15 11 = v / 2048 := Nat.mod_eq_of_lt (by omega)
  have hg : bitField v 10 5 = v / 32 % 64 := rfl
  have hb : bitField v 4 0 = v % 32 := by simp [bitField]
  simp only [rgb565Channels, hr, hg, hb]
  rw [replicateBits_eq (by omega), replicateBits_eq (by omega), replicateBits_eq (by omega)]
  rfl

/-- An RGB565 pixel by the word of its two bytes. -/
theorem pixelChannels_rgb565 (p : Params) (pre : List Byte) (p0 p1 : Byte) (rest : List Byte) :
    pixelChannels p .rgb565 (pre ++ p0 :: p1 :: rest) pre.length
      = rgb565Channels (rgb565Word p.rgb565ByteSwap p0 p1) := by
  rw [pixelChannels_append]
  rfl

/-- Settles O60: the bytes at the offset make the word, and the word's fields the channels. -/
theorem pixelsDecodeToTheirChannels : Obligations.PixelsDecodeToTheirChannels := by
  refine ⟨?_, ?_, ?_, rfl, rfl, rfl, rfl⟩
  · rintro p pre p0 p1 rest v rfl
    rw [pixelChannels_rgb565, rgb565Channels_eq (rgb565Word_lt _ _ _), rgb565Word_eq]
  · intro p pre p0 p1 rest hswap
    simp only [pixelChannels_rgb565, hswap]
    refine ⟨by decide, by decide, by decide, ?_⟩
    have hword : rgb565Word false p0 p1 = rgb565Word true p1 p0 := Nat.or_comm _ _
    rw [hword]
  · intro p pre b g r a rest
    simp only [pixelChannels_append]
    exact ⟨rfl, rfl, rfl⟩

end Sys2Proof.Machine
end

section
/-! The bits of a packed bitmap (O55; 46_packer.md R220–R231): clearing a bit changes that bit alone, so after the loop a bit
is 1 unless some ink pixel has it for its place, and distinct pixels have distinct places. -/

namespace Sys2Proof.Machine

/-! ## One bit of the output -/

/-- A byte masked as R220 does it: bit `k` is 0 and every other one stands. -/
theorem getLsbD_clearMask (b : Byte) {j k : Nat} (hj : j < 8) :
    (b &&& ~~~(1#8 <<< k)).getLsbD j = (b.getLsbD j && decide (j ≠ k)) := by
  rw [BitVec.getLsbD_and, BitVec.getLsbD_not, BitVec.getLsbD_shiftLeft, BitVec.getLsbD_one]
  grind

/-- The byte at an offset after one byte is modified by a function that keeps 0, the value beyond the end. -/
theorem memByte_memModify (out : List Byte) (i j : Nat) {f : Byte → Byte} (hf : f 0#8 = 0#8) :
    memByte (memModify out i f) j = if i = j then f (memByte out j) else memByte out j := by
  simp only [memByte, memModify, List.getD_eq_getElem?_getD, List.getElem?_modify]
  cases out[j]? with
  | none => split <;> simp [hf]
  | some b => split <;> rfl

/-- Clearing the bit at a position makes it 0 and leaves every other bit (R228). -/
theorem packedBit_clearBit (out : List Byte) (pos q : Nat) :
    packedBit (clearBit out pos) q = (packedBit out q && decide (q ≠ pos)) := by
  have hzero : (fun b : Byte => b &&& ~~~(1#8 <<< (7 - pos % 8))) 0#8 = 0#8 := BitVec.zero_and
  rw [packedBit, packedBit, clearBit, memByte_memModify out (pos / 8) (q / 8) hzero]
  by_cases hbyte : pos / 8 = q / 8
  · have hbit : 7 - q % 8 ≠ 7 - pos % 8 ↔ q ≠ pos := by omega
    simp only [if_pos hbyte, getLsbD_clearMask _ (show 7 - q % 8 < 8 by omega), hbit]
  · have hne : q ≠ pos := fun h => hbyte (by rw [h])
    simp only [if_neg hbyte, decide_eq_true hne, Bool.and_true]

/-- The all-white bitmap has every bit at 1 (R222). -/
theorem packedBit_white {n pos : Nat} (h : pos / 8 < n) : packedBit (List.replicate n 0xFF) pos = true := by
  have hbit : ∀ k < 8, (0xFF : Byte).getLsbD (7 - k) = true := by decide
  rw [packedBit, memByte, List.getD_replicate _ h]
  exact hbit _ (Nat.mod_lt _ (by omega))

/-! ## The loop over the pixels -/

section
variable {p : Params} {xs w : U16} {f : PixelFormat} {src : List Byte} {thr : Byte}

/-- A bit is 1 after the loop when it was before and no ink pixel of the loop has it for its place (R220). -/
theorem packedBit_foldl_packPixel (order : List (Nat × Nat)) (out : List Byte) (pos : Nat) :
    packedBit (order.foldl (packPixel p xs w f src thr) out) pos = true ↔
      packedBit out pos = true
        ∧ ∀ rc ∈ order, pixelInk p w f src thr rc.1 rc.2 = true → pos ≠ destPos p xs w rc.1 rc.2 := by
  induction order generalizing out with
  | nil => simp
  | cons rc rest ih =>
    rw [List.foldl_cons, ih, packPixel, List.forall_mem_cons]
    cases pixelInk p w f src thr rc.1 rc.2 with
    | false => simp
    | true => simp [packedBit_clearBit, and_assoc]

theorem mem_pixelOrder {w h : U16} {rc : Nat × Nat} : rc ∈ pixelOrder w h ↔ rc.1 < h.toNat ∧ rc.2 < w.toNat := by
  obtain ⟨r, c⟩ := rc
  simp [pixelOrder]

/-- A bit of the bitmap is 1 exactly when no ink pixel has it for its place (R220, R222). -/
theorem packedBit_packBytes {h : U16} {pos : Nat} (hpos : pos / 8 < alignedWidth xs w * h.toNat / 8) :
    packedBit (packBytes p xs w h f src thr) pos = true ↔
      ∀ r c, r < h.toNat → c < w.toNat → pixelInk p w f src thr r c = true → pos ≠ destPos p xs w r c := by
  rw [packBytes, packedBit_foldl_packPixel]
  simp only [packedBit_white hpos, true_and, mem_pixelOrder, Prod.forall, and_imp]

end

/-! ## The places of the pixels -/

/-- The leading pad as a remainder (R221). -/
theorem leadingPad_eq (xs : U16) : leadingPad xs = xs.toNat % 8 := by
  unfold leadingPad alignDown8
  omega

/-- The aligned width by its formula (R221). -/
theorem alignedWidth_eq (xs w : U16) : alignedWidth xs w = (w.toNat + xs.toNat % 8 + 7) / 8 * 8 := by
  rw [alignedWidth, leadingPad_eq, roundUp8]

/-- A row holds the leading pad and the pixels (R221). -/
theorem leadingPad_add_width_le (xs w : U16) : leadingPad xs + w.toNat ≤ alignedWidth xs w := by
  rw [alignedWidth, roundUp8]
  omega

/-- A pixel's index lies in its row, past the leading pad and before the right pad (R228). -/
theorem destIndex_bounds (p : Params) (xs : U16) {w : U16} {c : Nat} (hc : c < w.toNat) :
    leadingPad xs ≤ destIndex p xs w c ∧ destIndex p xs w c < leadingPad xs + w.toNat := by
  unfold destIndex
  split <;> omega

/-- Distinct columns have distinct indices, mirrored or not (R228). -/
theorem destIndex_inj {p : Params} {xs w : U16} {c c' : Nat} (hc : c < w.toNat) (hc' : c' < w.toNat)
    (h : destIndex p xs w c = destIndex p xs w c') : c = c' := by
  unfold destIndex at h
  split at h <;> omega

/-- A position in the bitmap has one row and one index in it. -/
theorem rowPos_inj {n r r' i i' : Nat} (hi : i < n) (hi' : i' < n) (h : r * n + i = r' * n + i') : r = r' ∧ i = i' := by
  have hn : 0 < n := by omega
  have hrow : ∀ r i : Nat, i < n → (r * n + i) / n = r := fun r i hi => by
    rw [Nat.mul_comm, Nat.mul_add_div hn, Nat.div_eq_of_lt hi, Nat.add_zero]
  obtain rfl : r = r' := by rw [← hrow r i hi, h, hrow r' i' hi']
  exact ⟨rfl, Nat.add_left_cancel h⟩

/-- A position in a row of the bitmap lies in one of its bytes (R220). -/
theorem rowPos_div_lt {xs w h : U16} {r idx : Nat} (hr : r < h.toNat) (hidx : idx < alignedWidth xs w) :
    (r * alignedWidth xs w + idx) / 8 < alignedWidth xs w * h.toNat / 8 := by
  have hpos : r * alignedWidth xs w + idx < alignedWidth xs w * h.toNat :=
    calc r * alignedWidth xs w + idx
      _ < r * alignedWidth xs w + alignedWidth xs w := by omega
      _ = alignedWidth xs w * (r + 1) := by ring
      _ ≤ alignedWidth xs w * h.toNat := Nat.mul_le_mul_left _ hr
  have hdvd : 8 ∣ alignedWidth xs w * h.toNat := Dvd.dvd.mul_right (Nat.dvd_mul_left 8 _) _
  omega

section
variable {p : Params} {xs w h : U16} {f : PixelFormat} {src : List Byte} {thr : Byte} {r : Nat} (hr : r < h.toNat)
include hr

/-- The bit at a pixel's place is 0 exactly when that pixel is ink (R227, R228). -/
theorem packedBit_destPos {c : Nat} (hc : c < w.toNat) :
    packedBit (packBytes p xs w h f src thr) (destPos p xs w r c) = !pixelInk p w f src thr r c := by
  have hrow := leadingPad_add_width_le xs w
  have hidx : ∀ {c}, c < w.toNat → destIndex p xs w c < alignedWidth xs w := fun hc =>
    Nat.lt_of_lt_of_le (destIndex_bounds p xs hc).2 hrow
  have hbyte : destPos p xs w r c / 8 < alignedWidth xs w * h.toNat / 8 := rowPos_div_lt hr (hidx hc)
  rw [Bool.eq_iff_iff, packedBit_packBytes hbyte, Bool.not_eq_true', ← Bool.not_eq_true]
  constructor
  · exact fun hwhite hink => hwhite r c hr hc hink rfl
  · intro hwhite r' c' _ hc' hink hpos
    obtain ⟨rfl, hindex⟩ := rowPos_inj (hidx hc) (hidx hc') hpos
    obtain rfl := destIndex_inj hc hc' hindex
    exact hwhite hink

/-- The bits of the leading pad and of the right pad are 1 (R222). -/
theorem packedBit_pad {idx : Nat} (hidx : idx < alignedWidth xs w)
    (hpad : idx < leadingPad xs ∨ leadingPad xs + w.toNat ≤ idx) :
    packedBit (packBytes p xs w h f src thr) (r * alignedWidth xs w + idx) = true := by
  rw [packedBit_packBytes (rowPos_div_lt hr hidx)]
  intro r' c' _ hc' _ hpos
  have hbounds := destIndex_bounds p xs hc'
  have hrow := leadingPad_add_width_le xs w
  obtain ⟨-, hindex⟩ := rowPos_inj hidx (by omega) hpos
  omega

end

/-- The place of a pixel as the rule writes it (R228). -/
theorem destPos_eq (p : Params) (xs w : U16) (r c : Nat) :
    destPos p xs w r c = r * ((w.toNat + xs.toNat % 8 + 7) / 8 * 8) + xs.toNat % 8
      + (if p.mirrorX then w.toNat - 1 - c else c) := by
  rw [destPos, alignedWidth_eq, destIndex, leadingPad_eq]
  split <;> omega

/-- Settles O55: the bits at the pixels' places and the bits of the pads. -/
theorem packedBitsAreTheClassifiedPixels : Obligations.PackedBitsAreTheClassifiedPixels := by
  intro p xs w h f src thr r hr
  constructor
  · intro c hc
    rw [← destPos_eq, packedBit_destPos hr hc]
    rfl
  · intro idx hidx hpad
    rw [← alignedWidth_eq] at hidx ⊢
    rw [← leadingPad_eq] at hpad
    exact packedBit_pad hr hidx hpad

end Sys2Proof.Machine
end

section
/-! A frame of an operation in flight completes as the CMD its acts are (O51), and the full window byte for byte (O7). -/

namespace Sys2Proof.Machine

/-- Settles O7: each payload is one chunk of MAX_TXN 4096, its values the last column 479 and the last row 799. -/
theorem referenceFullWindowBytes : Obligations.ReferenceFullWindowBytes := rfl

/-- Events without a busy sample draw no level (R110). -/
theorem observeAll_busyLevels {tr : List Event} (h : ∀ level, .sampleBusy level ∉ tr) (s : State) :
    (s.observeAll tr).busyLevels = s.busyLevels := by
  induction tr generalizing s with
  | nil => rfl
  | cons e rest ih =>
    have hrest : ((s.observe e).observeAll rest).busyLevels = (s.observe e).busyLevels :=
      ih (fun level hl => h level (.tail _ hl)) _
    have hhead : (s.observe e).busyLevels = s.busyLevels := by
      cases e with
      | sampleBusy level => exact absurd (.head _) (h level)
      | _ => simp [State.observe]
    exact hrest.trans hhead

/-- A frame proper waits for nothing (R102). -/
theorem sampleBusy_not_mem_frameTrace (p : Params) (op : Byte) (payload : List Byte) (level : Level) :
    .sampleBusy level ∉ frameTrace p op payload := by
  simp [frameTrace]

/-- A frame completes as the CMD and the wait that its acts follow (R250). -/
theorem completesAsFrame_of_follows {s : State} {f : Instr} {op : Byte} {payload : List Byte} {wait : List Event}
    (hf : Follows s.params (frameActs s.params f) (frameTrace s.params op payload ++ wait)) :
    CompletesAsFrame s f op payload wait := by
  intro q before after hp hk hd
  have hscript : script s.params q = flatten s.params before ++ (frameActs s.params f ++ flatten s.params after) := by
    simp [script, hp]
  have hrun := hf.reaches (.frame hp) rfl (Nat.le_refl _) (Nat.le_refl _) hk hscript hd
  refine ⟨by simpa [State.goto] using hrun, hf.rstLvl (fun _ => sends_of_mem_frameActs) s, ?_⟩
  exact observeAll_busyLevels (sampleBusy_not_mem_frameTrace s.params op payload) s

/-- A frame whose acts are one CMD completes as it, without a wait (R102). -/
theorem completesAsFrame_of_cmd {s : State} {f : Instr} {op : Byte} {payload : List Byte}
    (hf : frameActs s.params f = cmd s.params op payload) : CompletesAsFrame s f op payload [] := by
  refine completesAsFrame_of_follows ?_
  rw [hf, List.append_nil]
  exact .ofCmd s.params op payload

/-- Settles O51: the acts of each of the five frames are one CMD. -/
theorem coordinateFramesComplete : Obligations.CoordinateFramesComplete := fun _ _ _ _ =>
  ⟨completesAsFrame_of_cmd rfl, completesAsFrame_of_cmd rfl, completesAsFrame_of_cmd rfl, completesAsFrame_of_cmd rfl,
    completesAsFrame_of_cmd rfl⟩

end Sys2Proof.Machine
end

section
/-! The two formats decode what they encode (O1–O4; 30_encoding.md R70–R79). -/

namespace Sys2Proof.Machine

/-! ## Byte order -/

/-- A u16 is read back from its LE16 bytes (R50). -/
@[simp] theorem ofLe16_lo8_hi8 (v : U16) : ofLe16 (lo8 v.toNat) (hi8 v.toNat) = v := by
  have hv := v.isLt
  apply BitVec.eq_of_toNat_eq
  simp only [ofLe16, lo8, hi8, BitVec.toNat_ofNat]
  omega

/-- Two bytes are the LE16 bytes of the u16 read from them (R50). -/
@[simp] theorem le16_ofLe16 (lo hi : Byte) : le16 (ofLe16 lo hi).toNat = [lo, hi] := by
  have hlo := lo.isLt
  have hhi := hi.isLt
  have hword : (ofLe16 lo hi).toNat = lo.toNat + 256 * hi.toNat := by
    rw [ofLe16, BitVec.toNat_ofNat, Nat.mod_eq_of_lt (by omega)]
  have h0 : lo8 (ofLe16 lo hi).toNat = lo := by
    apply BitVec.eq_of_toNat_eq
    rw [lo8, hword, BitVec.toNat_ofNat]
    omega
  have h1 : hi8 (ofLe16 lo hi).toNat = hi := by
    apply BitVec.eq_of_toNat_eq
    rw [hi8, hword, BitVec.toNat_ofNat]
    omega
  rw [le16, h0, h1]

/-! ## Command frames -/

/-- A literal payload that decodes is that of its frame (R79). -/
theorem literalFrame_eq_ok {payload literal : List Byte} {i j : Instr} (h : literalFrame payload literal i = .ok j) :
    j = i := by
  unfold literalFrame at h
  split at h <;> cases h
  rfl

@[simp] theorem literalFrame_self (literal : List Byte) (i : Instr) : literalFrame literal literal i = .ok i :=
  if_pos rfl

theorem length_romSlice (t : List Byte) (off n : Nat) : (romSlice t off n).length = n := by
  simp [romSlice]

/-- A waveform slice has the 105 bytes of WRITE_LUT under R7 (R263). -/
theorem length_of_wellFormed_writeLut {p : Params} (hc : configOk p = true) {lut : List Byte}
    (h : WellFormed p (.writeLut lut) = true) : lut.length = 105 := by
  simp only [configOk, Bool.and_eq_true, decide_eq_true_eq] at hc
  obtain ⟨⟨⟨-, hlen⟩, -⟩, -⟩ := hc
  simp only [WellFormed, Params.tables, List.any_eq_true, decide_eq_true_eq] at h
  obtain ⟨t, -, rfl⟩ := h
  rw [length_romSlice, hlen]

theorem decode_encode_frame {p : Params} {i : Instr} (hc : configOk p = true) (hf : i.isFrame = true)
    (hw : WellFormed p i = true) : decode p (encode i) = .ok i := by
  cases i
  case driverOutputControl gate tail =>
    obtain ⟨-, rfl⟩ : gate.toNat = p.h - 1 ∧ tail = p.pDrvOutTail := by simpa [WellFormed] using hw
    simp [encode, decode, decodeCmdframe, le16]
  case boosterSoftStart | dataEntryMode | borderSelect | tempSensorSelect | deepSleepFrame =>
    obtain rfl := of_decide_eq_true hw
    simp [encode, decode, decodeCmdframe]
  case ramXWindow | ramYWindow | ramXCounter | ramYCounter =>
    simp [encode, decode, decodeCmdframe, le16]
  case writeRamOld pixels =>
    have hlen : 0 < pixels.length ∧ pixels.length ≤ p.frameBytes := by
      simpa only [WellFormed, Bool.and_eq_true, decide_eq_true_eq] using hw
    exact if_pos hlen
  case writeRamNew pixels => exact if_pos (of_decide_eq_true hw)
  case writeLut lut => exact if_pos (length_of_wellFormed_writeLut hc hw)
  case softReset | gateTiming | sourceTiming | vcom | displayUpdateControl | masterTrigger => rfl
  all_goals cases hf

/-- A byte is given by its number. -/
theorem eq_ofNat_of_toNat {b : Byte} {n : Nat} (h : b.toNat = n) : b = BitVec.ofNat 8 n := by
  rw [← h, BitVec.ofNat_toNat, BitVec.setWidth_eq]

theorem encode_of_decodeCmdframe {p : Params} {op : Byte} {payload : List Byte} {i : Instr}
    (h : decodeCmdframe p op payload = .ok i) :
    op ∈ opcodes ∧ i.isFrame = true ∧ encode i = .cmdframe op payload := by
  unfold decodeCmdframe at h
  split at h
  case h_20 => cases h
  all_goals
    rename_i hop
    obtain rfl := eq_ofNat_of_toNat hop
    refine ⟨by simp [opcodes], ?_⟩
  -- 0x01: a coordinate and then a literal
  case h_2 =>
    split at h
    · obtain rfl := literalFrame_eq_ok h
      exact ⟨rfl, by simp [encode]⟩
    · cases h
  -- the five literals
  case h_3 | h_4 | h_9 | h_10 | h_19 =>
    obtain rfl := literalFrame_eq_ok h
    exact ⟨rfl, rfl⟩
  -- the payloads whose length is checked, and those spelled byte by byte
  all_goals
    split at h <;> cases h
    exact ⟨rfl, by simp [encode]⟩

/-! ## Host requests -/

@[simp] theorem formatOfCode_code (f : PixelFormat) : formatOfCode f.code = some f := by cases f <;> rfl

theorem formatOfCode_eq_some {code : Byte} {f : PixelFormat} (h : formatOfCode code = some f) : f.code = code := by
  unfold formatOfCode at h
  split at h
  case h_5 => cases h
  all_goals
    rename_i hcode
    obtain rfl := eq_ofNat_of_toNat hcode
    cases h
    rfl

/-- A code from 4 on names no format (R77, R78). -/
theorem formatOfCode_eq_none {code : Byte} (h : 4 ≤ code.toNat) : formatOfCode code = none := by
  unfold formatOfCode
  split
  case h_5 => rfl
  all_goals omega

theorem decode_encode_hostop (p : Params) {i : Instr} (hf : i.isFrame = false) : decode p (encode i) = .ok i := by
  cases i
  case pack xs ys w h f src thr => cases thr <;> simp [encode, decode, decodeHostop, decodePack]
  case init | deinit | hardwareInit | clear | loadBaseMap | drawRegion | triggerRefresh | deepSleep => rfl
  all_goals cases hf

theorem encode_of_decodePack {args : List Arg} {i : Instr} (h : decodePack args = .ok i) :
    encode i = .hostop 0x09 args := by
  unfold decodePack at h
  split at h
  case h_3 => cases h
  all_goals
    split at h <;> cases h
    rename_i hf
    rw [encode, formatOfCode_eq_some hf]

theorem encode_of_decodeHostop {op : Byte} {args : List Arg} {i : Instr} (h : decodeHostop op args = .ok i) :
    encode i = .hostop op args := by
  unfold decodeHostop at h
  split at h
  case h_10 => cases h
  all_goals
    rename_i hop
    obtain rfl := eq_ofNat_of_toNat hop
  case h_9 => exact encode_of_decodePack h
  all_goals
    split at h <;> cases h
    rfl

/-- An op code outside R70 is refused, whatever its arguments (R78). -/
theorem decodeHostop_unknown {op : Byte} (args : List Arg) (h : op.toNat = 0 ∨ 10 ≤ op.toNat) :
    decodeHostop op args = .error .unknownOperation := by
  unfold decodeHostop
  split
  case h_10 => rfl
  all_goals omega

/-- A `pack` request with an unknown format is refused, with its threshold or without (R78, log 6). -/
theorem decodeHostop_unknownFormat (xs ys w h : U16) {f : Byte} (src : BufRef) (thr : Byte) (hf : 4 ≤ f.toNat) :
    decodeHostop 0x09 [.u16 xs, .u16 ys, .u16 w, .u16 h, .u8 f, .buf src] = .error .unknownFormat
    ∧ decodeHostop 0x09 [.u16 xs, .u16 ys, .u16 w, .u16 h, .u8 f, .buf src, .u8 thr] = .error .unknownFormat := by
  simp [decodeHostop, decodePack, formatOfCode_eq_none hf]

/-- An opcode outside R76 is refused (log 13). -/
theorem decodeCmdframe_unknown (p : Params) {op : Byte} (payload : List Byte) (h : op ∉ opcodes) :
    decodeCmdframe p op payload = .error .unknownOpcode := by
  unfold decodeCmdframe
  split
  case h_20 => rfl
  all_goals
    rename_i hop
    obtain rfl := eq_ofNat_of_toNat hop
    exact absurd (by simp [opcodes]) h

/-- Settles O2: the frames by the shape of their payload, in both directions. -/
theorem frameDecodesFromItsEncoding : Obligations.FrameDecodesFromItsEncoding :=
  ⟨fun _ _ hc hf hw => decode_encode_frame hc hf hw, fun _ _ _ _ h => encode_of_decodeCmdframe h⟩

/-- Settles O1: the op code picks the operation and its fields are read in the order of R71, in both directions. -/
theorem hostopDecodesFromItsEncoding : Obligations.HostopDecodesFromItsEncoding :=
  ⟨fun p _ hf => decode_encode_hostop p hf, fun _ _ _ _ h => ⟨decodeHostop_not_frame h, encode_of_decodeHostop h⟩⟩

/-- Settles O4: no arm of a decoder is for a code outside its map. -/
theorem unknownCodesAreRefused : Obligations.UnknownCodesAreRefused :=
  ⟨fun _ _ args h => decodeHostop_unknown args h,
    fun _ xs ys w h _ src thr hf => decodeHostop_unknownFormat xs ys w h src thr hf,
    fun p _ payload h => decodeCmdframe_unknown p payload h⟩

/-- Settles O3: each word is read by the arm of its code. -/
theorem specWordsDecode : Obligations.SpecWordsDecode :=
  ⟨rfl, rfl, rfl, rfl, rfl, rfl⟩

end Sys2Proof.Machine
end

section
/-! That every step keeps the bus disciplined (O20): a script is a sequence of blocks, each one SEND, one busy wait, or an
act of another kind, so that a transaction directly follows its own SetLine(DC). -/

namespace Sys2Proof.Machine

/-! ## The command frame an instruction is sent as -/

/-- Every instruction is encoded under a code of its own format (R70, R76). -/
theorem closedCodes (i : Instr) : Laws.ClosedCodes.Statement i := by
  cases i
  case pack xs ys w h f src thr => exact Laws.ClosedCodes.pack xs ys w h f src thr
  all_goals simp [Laws.ClosedCodes.Statement, encode, Instr.isFrame, opcodes]

/-- What is encoded as a frame is one, under an opcode of R76. -/
theorem closedCodes_frame {f : Instr} {op : Byte} {payload : List Byte} (h : encode f = .cmdframe op payload) :
    f.isFrame = true ∧ op ∈ opcodes := by
  have hcode := closedCodes f
  rwa [Laws.ClosedCodes.Statement, h] at hcode

theorem isFrame_of_encode {f : Instr} {op : Byte} {payload : List Byte} (h : encode f = .cmdframe op payload) :
    f.isFrame = true := (closedCodes_frame h).1

theorem mem_opcodes_of_encode {f : Instr} {op : Byte} {payload : List Byte} (h : encode f = .cmdframe op payload) :
    op ∈ opcodes := (closedCodes_frame h).2

theorem exists_encode_of_isFrame {f : Instr} (h : f.isFrame = true) : ∃ op payload, encode f = .cmdframe op payload := by
  have hcode := closedCodes f
  rw [Laws.ClosedCodes.Statement] at hcode
  split at hcode
  · rw [h] at hcode
    cases hcode.1
  · exact ⟨_, _, by assumption⟩

/-- A frame's acts are the CMD of its encoding and then at most one busy wait (R75, R102, R250). -/
theorem frameActs_of_encode (p : Params) {f : Instr} {op : Byte} {payload : List Byte}
    (h : encode f = .cmdframe op payload) :
    ∃ wait, frameActs p f = cmd p op payload ++ wait ∧ (wait = [] ∨ wait = waitBusy p) := by
  cases f
  case softReset | writeLut | masterTrigger => cases h; exact ⟨waitBusy p, rfl, .inr rfl⟩
  case pack xs ys w h f src thr => cases thr <;> cases h
  case init | deinit | hardwareInit | clear | loadBaseMap | drawRegion | triggerRefresh | deepSleep => cases h
  all_goals
    cases h
    exact ⟨[], (List.append_nil _).symm, .inl rfl⟩

/-! ## Blocks -/

/-- An act that neither drives DC, nor sends, nor belongs to a busy wait. -/
def Act.standsAlone : Act → Bool
  | .setLine line _ => line = .rst
  | .xfer _ => false
  | .sampleBusy => false
  | .pollDelay _ => false
  | _ => true

/-- A block of a script: one SEND, whose bytes are a single opcode when it is made at the command level; one busy wait; or
one act that stands alone (R101, R104, R250). -/
inductive Block (p : Params) : List Act → Prop where
  | send (mode : Mode) (bytes : List Byte) (h : mode = .command → ∃ op ∈ opcodes, bytes = [op]) :
      Block p (send p mode bytes)
  | wait : Block p (waitBusy p)
  | alone (a : Act) (h : a.standsAlone = true) : Block p [a]

/-- A list of acts that is blocks, one after the other. -/
def InBlocks (p : Params) (acts : List Act) : Prop := ∃ bs : List (List Act), acts = bs.flatten ∧ ∀ b ∈ bs, Block p b

theorem InBlocks.nil (p : Params) : InBlocks p [] := ⟨[], rfl, by simp⟩

theorem InBlocks.append {p : Params} {as bs : List Act} (ha : InBlocks p as) (hb : InBlocks p bs) :
    InBlocks p (as ++ bs) := by
  obtain ⟨xs, rfl, hxs⟩ := ha
  obtain ⟨ys, rfl, hys⟩ := hb
  exact ⟨xs ++ ys, by simp, fun b hb => (List.mem_append.1 hb).elim (hxs b) (hys b)⟩

theorem InBlocks.of_block {p : Params} {b : List Act} (h : Block p b) : InBlocks p b :=
  ⟨[b], by simp, by simpa using h⟩

theorem InBlocks.of_standsAlone {p : Params} {acts : List Act} (h : ∀ a ∈ acts, a.standsAlone = true) :
    InBlocks p acts := by
  induction acts with
  | nil => exact .nil p
  | cons a rest ih => exact (InBlocks.of_block (.alone a (h a (.head _)))).append (ih fun b hb => h b (.tail _ hb))

theorem InBlocks.stream (p : Params) (payload : List Byte) : InBlocks p (stream p payload) := by
  refine ⟨(chunks p.maxTxn payload).map (send p .data), by simp [Machine.stream, List.flatMap_def], ?_⟩
  intro b hb
  obtain ⟨c, -, rfl⟩ := List.mem_map.1 hb
  exact .send .data c nofun

theorem InBlocks.cmd (p : Params) {op : Byte} (hop : op ∈ opcodes) (payload : List Byte) :
    InBlocks p (cmd p op payload) := by
  refine (InBlocks.of_block (.send .command [op] fun _ => ⟨op, hop, rfl⟩)).append ?_
  split
  · exact .stream p payload
  · exact .nil p

theorem InBlocks.frameActs (p : Params) (f : Instr) : InBlocks p (frameActs p f) := by
  cases hf : f.isFrame with
  | false => exact frameActs_operation (p := p) hf ▸ .nil p
  | true =>
    obtain ⟨op, payload, he⟩ := exists_encode_of_isFrame hf
    obtain ⟨wait, hacts, hwait⟩ := frameActs_of_encode p he
    rw [hacts]
    refine (InBlocks.cmd p (mem_opcodes_of_encode he) payload).append ?_
    rcases hwait with rfl | rfl
    · exact .nil p
    · exact .of_block .wait

theorem InBlocks.flatten {p : Params} {ps : List Piece} (h : ∀ acts, .own acts ∈ ps → InBlocks p acts) :
    InBlocks p (flatten p ps) := by
  induction ps with
  | nil => exact .nil p
  | cons x rest ih =>
    refine InBlocks.append ?_ (ih fun acts ha => h acts (.tail _ ha))
    cases x with
    | own acts => exact h acts (.head _)
    | frame f => exact .frameActs p f

/-- An operation's own acts are in blocks: they stand alone, but for the busy wait of `hardwareInit` (R140). -/
theorem InBlocks.own {p : Params} {i : Instr} {acts : List Act} (h : .own acts ∈ pieces p i) : InBlocks p acts := by
  by_cases hi : ∃ fast, i = .hardwareInit fast
  · obtain ⟨fast, rfl⟩ := hi
    have hacts : acts = [.requireReady] ∨ acts = resetPulse p ++ waitBusy p := by
      simpa [pieces, hardwareInitPieces, programRegisters, setFullWindow, setWindow, updateAndTrigger] using h
    rcases hacts with rfl | rfl
    · exact .of_standsAlone (by simp [Act.standsAlone])
    · exact (InBlocks.of_standsAlone (by simp [resetPulse, Act.standsAlone])).append (.of_block .wait)
  · have halone : ∀ a ∈ ownActs p i, a.standsAlone = true := by
      cases ho : isOperation i with
      | false => simp [ownActs_nil ho]
      | true =>
        cases i
        case hardwareInit fast => exact absurd ⟨fast, rfl⟩ hi
        case init | deinit | clear | loadBaseMap | drawRegion | triggerRefresh | deepSleep =>
          simp [Act.standsAlone, drawChecks, resetPulse]
        all_goals cases ho
    exact .of_standsAlone fun a ha => halone a (List.mem_flatMap.2 ⟨_, h, ha⟩)

theorem InBlocks.script (p : Params) (i : Instr) : InBlocks p (script p i) := .flatten fun _ h => .own h

/-- An entry of a list in blocks stands in one of the blocks. -/
theorem InBlocks.block_of_getElem? {p : Params} {acts : List Act} (h : InBlocks p acts) {k : Nat} {a : Act}
    (ha : acts[k]? = some a) :
    ∃ pre b post j, acts = pre ++ (b ++ post) ∧ Block p b ∧ k = pre.length + j ∧ b[j]? = some a := by
  obtain ⟨bs, rfl, hbs⟩ := h
  induction bs generalizing k with
  | nil => simp at ha
  | cons b rest ih =>
    rw [List.flatten_cons] at ha ⊢
    rcases Nat.lt_or_ge k b.length with hk | hk
    · exact ⟨[], b, rest.flatten, k, rfl, hbs b (.head _), by simp, by rwa [List.getElem?_append_left hk] at ha⟩
    · rw [List.getElem?_append_right hk] at ha
      obtain ⟨pre, c, post, j, he, hc, hj, hb⟩ := ih (fun c hc => hbs c (.tail _ hc)) ha
      exact ⟨b ++ pre, c, post, j, by rw [he, List.append_assoc], hc, by simp; omega, hb⟩

/-! ## What stands beside an entry of a script -/

theorem modeLevel_eq_dcCmdLevel {p : Params} {mode : Mode} (h : modeLevel p mode = p.dcCmdLevel) : mode = .command := by
  cases mode with
  | command => rfl
  | data => cases hl : p.dcCmdLevel <;> simp [modeLevel, hl, Level.other] at h

/-- An entry of a script stands alone, or is one of the two of a SEND or of a busy wait. -/
theorem script_entry_cases {p : Params} {i : Instr} {k : Nat} {a : Act} (h : (script p i)[k]? = some a) :
    a.standsAlone = true
    ∨ (∃ mode bytes m, (mode = .command → ∃ op ∈ opcodes, bytes = [op])
        ∧ (script p i)[m]? = some (.setLine .dc (modeLevel p mode)) ∧ (script p i)[m + 1]? = some (.xfer bytes)
        ∧ (k = m ∨ k = m + 1))
    ∨ (∃ m, (script p i)[m]? = some .sampleBusy ∧ (script p i)[m + 1]? = some (.pollDelay p.busyPollMs)
        ∧ (k = m ∨ k = m + 1)) := by
  obtain ⟨pre, b, post, j, hs, hb, rfl, ha⟩ := (InBlocks.script p i).block_of_getElem? h
  have hj : j < b.length := (List.getElem?_eq_some_iff.1 ha).1
  have hentry : ∀ n < b.length, (script p i)[pre.length + n]? = b[n]? := by
    intro n hn
    rw [hs, List.getElem?_append_right (by omega), Nat.add_sub_cancel_left, List.getElem?_append_left hn]
  cases hb with
  | send mode bytes hop =>
    simp only [send, List.length_cons, List.length_nil] at hj
    exact .inr (.inl ⟨mode, bytes, pre.length, hop, hentry 0 Nat.zero_lt_two, hentry 1 Nat.one_lt_two, by omega⟩)
  | wait =>
    simp only [waitBusy, List.length_cons, List.length_nil] at hj
    exact .inr (.inr ⟨pre.length, hentry 0 Nat.zero_lt_two, hentry 1 Nat.one_lt_two, by omega⟩)
  | alone c hc =>
    obtain rfl := List.mem_singleton.1 (List.mem_of_getElem? ha)
    exact .inl hc

/-- A transaction directly follows a SetLine(DC), and made at the command level it is one opcode (R101, R250). -/
theorem script_before_xfer {p : Params} {i : Instr} {k : Nat} {bytes : List Byte}
    (h : (script p i)[k]? = some (.xfer bytes)) :
    ∃ m l, k = m + 1 ∧ (script p i)[m]? = some (.setLine .dc l) ∧ (l = p.dcCmdLevel → ∃ op ∈ opcodes, bytes = [op]) := by
  rcases script_entry_cases h with ha | ⟨mode, bytes', m, hop, h0, h1, rfl | rfl⟩ | ⟨m, h0, h1, rfl | rfl⟩
  · cases ha
  · cases h0.symm.trans h
  · cases h1.symm.trans h
    exact ⟨m, _, rfl, h0, fun hl => hop (modeLevel_eq_dcCmdLevel hl)⟩
  · cases h0.symm.trans h
  · cases h1.symm.trans h

/-- A SetLine(DC) is directly followed by its transaction (R101). -/
theorem script_after_setLine_dc {p : Params} {i : Instr} {k : Nat} {l : Level}
    (h : (script p i)[k]? = some (.setLine .dc l)) : ∃ bytes, (script p i)[k + 1]? = some (.xfer bytes) := by
  rcases script_entry_cases h with ha | ⟨mode, bytes, m, -, h0, h1, rfl | rfl⟩ | ⟨m, h0, h1, rfl | rfl⟩
  · cases ha
  · exact ⟨bytes, h1⟩
  · cases h1.symm.trans h
  · cases h0.symm.trans h
  · cases h1.symm.trans h

/-- The delay of a busy wait directly follows its sample (R104). -/
theorem script_before_pollDelay {p : Params} {i : Instr} {k ms : Nat} (h : (script p i)[k]? = some (.pollDelay ms)) :
    ∃ m, k = m + 1 ∧ (script p i)[m]? = some .sampleBusy := by
  rcases script_entry_cases h with ha | ⟨mode, bytes, m, -, h0, h1, rfl | rfl⟩ | ⟨m, h0, -, rfl | rfl⟩
  · cases ha
  · cases h0.symm.trans h
  · cases h1.symm.trans h
  · cases h0.symm.trans h
  · exact ⟨m, rfl, h0⟩

/-! ## The invariant -/

/-- Where an entry leads, the entry before is a SetLine(DC) only if it is the one that was performed. -/
theorem eq_of_setLine_dc_before_nextEntry {s : State} {i : Instr} {k m : Nat} {a : Act} {l : Level}
    (ha : (script s.params i)[k]? = some a) (hm : a.nextEntry s k = m + 1)
    (hl : (script s.params i)[m]? = some (.setLine .dc l)) : a = .setLine .dc l := by
  have hnext : a.nextEntry s k = k + 1 → a = .setLine .dc l := by
    intro hk
    obtain rfl : m = k := by omega
    rw [ha] at hl
    exact Option.some.inj hl
  cases a with
  | sampleBusy =>
    by_cases hb : s.busyLevel = .low
    · obtain rfl : m = k + 1 := by simp only [Act.nextEntry, if_pos hb] at hm; omega
      rw [samplesPaired_script _ _ k ha] at hl
      cases hl
    · exact hnext (if_neg hb)
  | pollDelay ms =>
    obtain ⟨n, rfl, hsample⟩ := script_before_pollDelay ha
    obtain ⟨bytes, hx⟩ := script_after_setLine_dc hl
    obtain rfl : n = m + 1 := hm
    rw [hsample] at hx
    cases hx
  | _ => exact hnext rfl

theorem BusDisciplined.movesTo {s u : State} (h : BusDisciplined s) (hu : s.MovesTo u) : BusDisciplined u := by
  obtain ⟨rs, ts, n, rfl⟩ := hu
  exact ⟨h.trace, h.position⟩

theorem BusDisciplined.respond {s : State} (h : BusDisciplined s) (r : Response) : BusDisciplined (s.respond r) :=
  ⟨h.trace, h.position⟩

theorem BusDisciplined.accept {s : State} (h : BusDisciplined s) (i : Instr) : BusDisciplined (s.accept i) :=
  ⟨h.trace, by rintro _ _ _ ⟨-, hk⟩; cases hk⟩

theorem BusDisciplined.finish {s : State} (h : TraceDisciplined s.params.dcCmdLevel s.trace) (r : Response) :
    BusDisciplined (s.finish r) :=
  ⟨h, by rintro _ _ _ ⟨hq, -⟩; cases hq⟩

/-- A trace stays disciplined by an event that is no transaction, or one that follows its SetLine(DC). -/
theorem TraceDisciplined.concat {c : Level} {tr : List Event} (h : TraceDisciplined c tr) {e : Event}
    (he : ∀ bytes, e = .xfer bytes →
      ∃ l, tr.getLast? = some (.setLine .dc l) ∧ (l = c → ∃ op ∈ opcodes, bytes = [op])) :
    TraceDisciplined c (tr ++ [e]) := by
  intro before bytes after heq
  rcases List.eq_nil_or_concat after with rfl | ⟨after, e', rfl⟩
  · obtain ⟨rfl, hlast⟩ := List.append_inj' heq rfl
    exact he bytes (List.singleton_inj.1 hlast)
  · have heq' : tr ++ [e] = (before ++ .xfer bytes :: after) ++ [e'] := by simpa using heq
    exact h before bytes after (List.append_inj' heq' rfl).1

/-- The event of a script entry keeps the trace disciplined (R101, R250). -/
theorem BusDisciplined.trace_observe {s : State} (h : BusDisciplined s) {i : Instr} {k : Nat} {a : Act} {e : Event}
    (hk : s.At i k) (ha : (script s.params i)[k]? = some a) (he : a.event s = some e) :
    TraceDisciplined s.params.dcCmdLevel (s.observe e).trace := by
  rw [State.observe_trace]
  refine h.trace.concat ?_
  rintro bytes rfl
  obtain rfl := Act.eq_xfer_of_event he
  obtain ⟨m, l, rfl, hl, hop⟩ := script_before_xfer ha
  exact ⟨l, h.position i m l hk hl, hop⟩

/-- The step pointer may go where the entry before, if it is a SetLine(DC), made the last event. -/
theorem BusDisciplined.goto {s : State} (h : TraceDisciplined s.params.dcCmdLevel s.trace) {i : Instr} {m : Nat}
    (hq : s.cur = some i)
    (hlast : ∀ n l, m = n + 1 → (script s.params i)[n]? = some (.setLine .dc l) →
      s.trace.getLast? = some (.setLine .dc l)) : BusDisciplined (s.goto m) where
  trace := h
  position := by
    rintro q n l ⟨hq', hn⟩ hl
    rw [State.goto_cur, hq] at hq'
    cases hq'
    cases hn
    exact hlast n l rfl hl

/-- A script entry keeps the bus disciplined. -/
theorem BusDisciplined.perform {s t : State} (h : BusDisciplined s) {i : Instr} {k : Nat} {a : Act} (hk : s.At i k)
    (ha : (script s.params i)[k]? = some a) (hp : perform a k s = .next t) : BusDisciplined t := by
  rcases perform_next hp with ⟨he, -, rfl⟩ | ⟨-, r, rfl⟩ | ⟨e, he, -, rfl⟩ | ⟨e, c, he, -, -, rfl⟩
  · refine BusDisciplined.goto h.trace hk.1 fun n l hn hl => ?_
    cases hn
    rw [ha] at hl
    cases hl
    cases he
  · exact .finish h.trace r
  · refine BusDisciplined.goto (by simpa using h.trace_observe hk ha he) (by simpa using hk.1) fun n l hn hl => ?_
    simp only [Act.write_params, State.observe_params] at hl
    obtain rfl := eq_of_setLine_dc_before_nextEntry ha hn hl
    cases he
    simp
  · exact .finish (by simpa using h.trace_observe hk ha he) _

/-- Settles O20, from the discipline of each update a step is made of. -/
theorem stepKeepsBusDisciplined : Obligations.StepKeepsBusDisciplined := by
  intro s t h hs
  obtain ⟨u, hu, rfl | ⟨r, rfl⟩ | ⟨i, -, -, rfl⟩ | ⟨i, k, a, -, hk, ha, hp⟩ | rfl⟩ := step_next hs
  · exact h.movesTo hu
  · exact (h.movesTo hu).respond r
  · exact (h.movesTo hu).accept i
  · exact (h.movesTo hu).perform hk ha hp
  · exact .finish (h.movesTo hu).trace .ok

end Sys2Proof.Machine
end

section
/-! What a step does with a host request (O8, O12), what has no step (O14), and the answer of `pack` (O54). -/

namespace Sys2Proof.Machine

/-! ## Taking a request -/

theorem takeRequest_ok {s : State} {q : HostRequest} {later : List HostRequest} {i : Instr} (hq : s.requests = q :: later)
    (hd : decodeHostop q.op q.args = .ok i) : takeRequest s = .run i { s with requests := later } := by
  simp [takeRequest, hq, hd]

theorem takeRequest_error {s : State} {q : HostRequest} {later : List HostRequest} {r : Refusal}
    (hq : s.requests = q :: later) (hd : decodeHostop q.op q.args = .error r) : takeRequest s = .refuse r := by
  simp [takeRequest, hq, hd]

/-- With nothing in flight the next move is the host's (R109). -/
theorem nextMove_idle {s : State} (hc : configOk s.params = true) (hcur : s.cur = none) : nextMove s = takeRequest s := by
  simp [nextMove, hc, hcur]

/-- Beside an operation in flight a waiting `pack` request is taken on the packer's turn (R313). -/
theorem nextMove_packer {s : State} {i : Instr} {args : List Arg} {later : List HostRequest}
    (hc : configOk s.params = true) (hcur : s.cur = some i) (hq : s.requests = ⟨0x09, args⟩ :: later)
    (ht : s.turn = .packer) : nextMove s = takeRequest s.takeTurn := by
  simp [nextMove, hc, hcur, packWaits, hq, ht]

/-- A configuration that breaks R7 is refused before anything else (R305). -/
theorem nextMove_illFormed {s : State} (hc : configOk s.params = false) : nextMove s = .refuse .illFormedConfig := by
  simp [nextMove, hc]

/-- Settles O8: the next move is the host's, and the request decodes. -/
theorem stepRunsDecodedRequest : Obligations.StepRunsDecodedRequest := by
  intro s q later i hc hcur hq hd
  rw [step, nextMove_idle hc hcur, takeRequest_ok hq hd]

/-! ## Refusals -/

/-- A refused move ends a run of any positive length (R305). -/
theorem run_of_refuse {s : State} {r : Refusal} (h : nextMove s = .refuse r) (k : Nat) :
    Host.Core.run core (k + 1) s = .refused r := by
  have hstep : core.step s = .refused r := by
    change step s = .refused r
    rw [step, h]
  simp only [Host.Core.run, hstep]

/-- A waiting `pack` request of an unknown format is refused where it is taken (R78, R305). -/
theorem takeRequest_unknownFormat {s : State} {xs ys w h : U16} {f : Byte} {src : BufRef} {thr : Byte}
    {later : List HostRequest} (hf : 4 ≤ f.toNat)
    (hq : s.requests = ⟨0x09, [.u16 xs, .u16 ys, .u16 w, .u16 h, .u8 f, .buf src]⟩ :: later
      ∨ s.requests = ⟨0x09, [.u16 xs, .u16 ys, .u16 w, .u16 h, .u8 f, .buf src, .u8 thr]⟩ :: later) :
    takeRequest s = .refuse .unknownFormat := by
  obtain ⟨hdefault, hgiven⟩ := decodeHostop_unknownFormat xs ys w h src thr hf
  rcases hq with hq | hq
  · exact takeRequest_error hq hdefault
  · exact takeRequest_error hq hgiven

/-- Settles O12: in each clause the move is refused, and so the run is. -/
theorem refusalsEndTheRun : Obligations.RefusalsEndTheRun := by
  refine ⟨fun s op args later k hc hcur hq hop => ?_, fun s xs ys w h f src thr later k hc hturn hq hf => ?_,
    fun s k hc => run_of_refuse (nextMove_illFormed hc) k⟩
  · refine run_of_refuse ?_ k
    rw [nextMove_idle hc hcur, takeRequest_error hq (decodeHostop_unknown args hop)]
  · refine run_of_refuse ?_ k
    cases hcur : s.cur with
    | none => rw [nextMove_idle hc hcur, takeRequest_unknownFormat hf hq]
    | some i =>
      have ht : s.turn = .packer := hturn.resolve_left (by simp [hcur])
      obtain ⟨args, hargs⟩ : ∃ args, s.requests = ⟨0x09, args⟩ :: later := hq.elim (fun h => ⟨_, h⟩) fun h => ⟨_, h⟩
      rw [nextMove_packer hc hcur hargs ht, takeRequest_unknownFormat (s := s.takeTurn) hf hq]

/-! ## What has no step -/

/-- Settles O14: another request is in flight, or the operation in flight is not sending the frame. -/
theorem secondRequestHasNoStep : Obligations.SecondRequestHasNoStep := by
  refine ⟨fun i j s k hi hk hij => ?_, fun f s hf h => ?_⟩
  · obtain ⟨hcur, hpc⟩ := hk
    rw [exec_script i s hi, runScript_busy hpc (by simpa [hcur] using hij.symm)]
  · rw [exec_frame f s hf]
    refine runFrame_outside fun j hj => ?_
    rcases h with hcur | hpc | ⟨q, k, hk, hne⟩
    · simp [State.sending, hcur] at hj
    · simp [State.sending, hpc] at hj
    · exact hne j (by rw [← hj, State.sending_at hk])

/-! ## The answer of `pack` -/

@[simp] theorem length_clearBit (out : List Byte) (pos : Nat) : (clearBit out pos).length = out.length := by
  simp [clearBit, memModify]

/-- The loop over the pixels keeps the length of the bitmap (R220). -/
theorem length_foldl_packPixel {p : Params} {xs w : U16} {f : PixelFormat} {src : List Byte} {thr : Byte}
    (order : List (Nat × Nat)) (out : List Byte) :
    (order.foldl (packPixel p xs w f src thr) out).length = out.length := by
  induction order generalizing out with
  | nil => rfl
  | cons rc rest ih =>
    rw [List.foldl_cons, ih, packPixel]
    split
    · exact length_clearBit _ _
    · rfl

/-- A bitmap has `alignedWidth*height/8` bytes (R229). -/
theorem length_packBytes (p : Params) (xs w h : U16) (f : PixelFormat) (src : List Byte) (thr : Byte) :
    (packBytes p xs w h f src thr).length = alignedWidth xs w * h.toNat / 8 := by
  rw [packBytes, length_foldl_packPixel, List.length_replicate]

/-- The window of `pack` by its formulas (R221, R229). -/
theorem packWindow_eq (xs ys w h : U16) :
    packWindow xs ys w h =
      ⟨xs.toNat - xs.toNat % 8, ys.toNat, h.toNat, (w.toNat + xs.toNat % 8 + 7) / 8 * 8⟩ := by
  rw [packWindow, alignedWidth_eq, alignDown8]

/-- Settles O54: the arguments pass the checks, and the loop keeps the length of the bitmap. -/
theorem packAnswersWithWindowAndBytes : Obligations.PackAnswersWithWindowAndBytes := by
  intro xs ys w h f src thr s hw hh hlen
  have hargs : packArgsOk w h f (some src) = true := by simp [packArgsOk, hw, hh, hlen]
  refine ⟨?_, ?_⟩
  · rw [exec_pack, packResponse, if_pos hargs, packWindow_eq]
    cases thr <;> rfl
  · rw [← alignedWidth_eq]
    exact length_packBytes _ _ _ _ _ _ _

end Sys2Proof.Machine
end

section
/-! Reading frames back from a trace (O5; 30_encoding.md R79): only SetLine(DC) and the transactions tell frames apart, so
the frames read from the events that pieces make are the encodings of the frames among those pieces. -/

namespace Sys2Proof.Machine

/-! ## STREAM -/

/-- The first `n` chunks are the first `n * m` bytes (R103). -/
theorem flatten_memRead_range (m n : Nat) (payload : List Byte) :
    ((List.range n).map fun i => memRead payload (i * m) m).flatten = payload.take (n * m) := by
  induction n with
  | zero => simp
  | succ n ih =>
    rw [List.range_succ, List.map_append, List.flatten_append, ih, Nat.succ_mul, List.take_add]
    simp [memRead]

/-- The chunks joined are the payload (R103). -/
theorem flatten_chunks {m : Nat} (hm : 1 ≤ m) (payload : List Byte) : (chunks m payload).flatten = payload := by
  rw [chunks, flatten_memRead_range]
  refine List.take_of_length_le ?_
  have hceil := Nat.lt_mul_div_succ (payload.length + m - 1) (show 0 < m by omega)
  rw [Nat.mul_succ, Nat.mul_comm] at hceil
  rw [ceilDiv]
  omega

/-! ## The events a reader of frames looks at -/

/-- The event of an act that tells frames apart: a SetLine(DC) or a transaction (R79). -/
def Act.busEvent : Act → Option Event
  | .setLine .dc level => some (.setLine .dc level)
  | .xfer bytes => some (.xfer bytes)
  | _ => none

/-- The events of a list of acts that tell frames apart. -/
def busEvents (acts : List Act) : List Event := acts.filterMap Act.busEvent

@[simp] theorem busEvents_append (as bs : List Act) : busEvents (as ++ bs) = busEvents as ++ busEvents bs :=
  List.filterMap_append

theorem busEvents_eq_nil {acts : List Act} (h : ∀ a ∈ acts, a.busEvent = none) : busEvents acts = [] :=
  List.filterMap_eq_nil_iff.2 h

@[simp] theorem busEvents_waitBusy (p : Params) : busEvents (waitBusy p) = [] := rfl

@[simp] theorem busEvents_send (p : Params) (mode : Mode) (bytes : List Byte) :
    busEvents (send p mode bytes) = [.setLine .dc (modeLevel p mode), .xfer bytes] := rfl

@[simp] theorem busEvents_stream (p : Params) (payload : List Byte) :
    busEvents (stream p payload) =
      (chunks p.maxTxn payload).flatMap fun c => [.setLine .dc p.dcCmdLevel.other, .xfer c] := by
  rw [busEvents, stream, List.filterMap_flatMap]
  rfl

/-- All events of a frame proper tell frames apart (R102). -/
theorem busEvents_cmd (p : Params) (op : Byte) (payload : List Byte) :
    busEvents (cmd p op payload) = frameTrace p op payload := by
  rw [cmd, busEvents_append, busEvents_send, frameTrace]
  cases payload with
  | nil => simp [chunks_nil, busEvents, modeLevel]
  | cons b rest => simp [modeLevel]

/-- An operation's own acts neither drive DC nor send. -/
theorem busEvent_of_mem_ownActs {p : Params} {i : Instr} {a : Act} (h : a ∈ ownActs p i) : a.busEvent = none := by
  rcases ownActs_cases h with hcheck | hpulse | hwait | ⟨_, _, _, _, _, _, -, rfl | rfl⟩ | ⟨-, rfl⟩
  · cases a with
    | setLine | xfer => cases hcheck
    | _ => rfl
  · simp only [resetPulse, List.mem_cons, List.not_mem_nil, or_false] at hpulse
    rcases hpulse with rfl | rfl | rfl | rfl <;> rfl
  · simp only [waitBusy, List.mem_cons, List.not_mem_nil, or_false] at hwait
    rcases hwait with rfl | rfl <;> rfl
  · rfl
  · rfl
  · rfl

theorem scanFrames_waitTrace (p : Params) (c : Level) (n : Nat) (dc : Option Level) (cur : Option RawFrame)
    (rest : List Event) : scanFrames c dc cur (waitTrace p n ++ rest) = scanFrames c dc cur rest := by
  induction n with
  | zero => rfl
  | succ n ih => exact ih

/-- The frames read from a trace that acts make are those read from the acts' own SetLine(DC)s and transactions. -/
theorem Follows.scanFrames_eq {p : Params} {acts : List Act} {tr : List Event} (h : Follows p acts tr) (c : Level)
    (dc : Option Level) (cur : Option RawFrame) : scanFrames c dc cur tr = scanFrames c dc cur (busEvents acts) := by
  induction h generalizing dc cur with
  | nil => rfl
  | setLine line level _ ih => cases line <;> exact ih _ _
  | @xfer bytes as es _ ih =>
    change scanFrames c dc cur (.xfer bytes :: es) = scanFrames c dc cur (.xfer bytes :: busEvents as)
    rw [scanFrames, scanFrames, ih, ih]
  | delay ms _ ih => exact ih _ _
  | wait n _ ih => rw [scanFrames_waitTrace, busEvents_append, busEvents_waitBusy, List.nil_append, ih]

/-! ## Frame by frame -/

theorem Level.other_ne (l : Level) : l.other ≠ l := by cases l <;> decide

/-- Data transactions are added to the frame that is open (R79). -/
theorem scanFrames_data (c : Level) (cs : List (List Byte)) (dc : Option Level) (f : RawFrame) (rest : List Event) :
    ∃ dc', scanFrames c dc (some f) ((cs.flatMap fun x => [.setLine .dc c.other, .xfer x]) ++ rest)
      = scanFrames c dc' (some ⟨f.command, f.payload ++ cs.flatten⟩) rest := by
  induction cs generalizing dc f with
  | nil => exact ⟨dc, by simp⟩
  | cons x xs ih =>
    obtain ⟨dc', h⟩ := ih (some c.other) ⟨f.command, f.payload ++ x⟩
    refine ⟨dc', ?_⟩
    simpa [scanFrames, Level.other_ne c] using h

/-- The events of a frame close the frame that is open and open this one (R79). -/
theorem scanFrames_frameTrace {p : Params} (hm : 1 ≤ p.maxTxn) (op : Byte) (payload : List Byte) (dc : Option Level)
    (cur : Option RawFrame) (rest : List Event) :
    ∃ dc', scanFrames p.dcCmdLevel dc cur (frameTrace p op payload ++ rest)
      = cur.toList ++ scanFrames p.dcCmdLevel dc' (some ⟨[op], payload⟩) rest := by
  obtain ⟨dc', h⟩ := scanFrames_data p.dcCmdLevel (chunks p.maxTxn payload) (some p.dcCmdLevel) ⟨[op], []⟩ rest
  rw [flatten_chunks hm] at h
  refine ⟨dc', ?_⟩
  simpa [frameTrace, scanFrames] using h

/-- What a reader of frames sees of a piece: the encoding of its frame. -/
def Piece.rawFrames : Piece → List RawFrame
  | .own _ => []
  | .frame f =>
    match encode f with
    | .cmdframe op payload => [⟨[op], payload⟩]
    | .hostop _ _ => []

theorem rawFrames_of_encode {f : Instr} {op : Byte} {payload : List Byte} (h : encode f = .cmdframe op payload) :
    Piece.rawFrames (.frame f) = [⟨[op], payload⟩] := by
  simp [Piece.rawFrames, h]

theorem mem_rawFrames {x : Piece} {r : RawFrame} (h : r ∈ x.rawFrames) :
    ∃ f op payload, x = .frame f ∧ encode f = .cmdframe op payload ∧ r = ⟨[op], payload⟩ := by
  cases x with
  | own acts => cases h
  | frame f =>
    rw [Piece.rawFrames] at h
    split at h
    · exact ⟨f, _, _, rfl, by assumption, List.mem_singleton.1 h⟩
    · cases h

/-- An instruction without an encoding as a frame is not sent. -/
theorem frameActs_of_encode_hostop (p : Params) {f : Instr} {op : Byte} {args : List Arg}
    (h : encode f = .hostop op args) : frameActs p f = [] := by
  have hcode := closedCodes f
  rw [Laws.ClosedCodes.Statement, h] at hcode
  exact frameActs_operation hcode.1

/-- A frame's acts are read as the one frame it is encoded as. -/
theorem busEvents_frameActs (p : Params) {f : Instr} {op : Byte} {payload : List Byte}
    (h : encode f = .cmdframe op payload) : busEvents (frameActs p f) = frameTrace p op payload := by
  obtain ⟨wait, hacts, rfl | rfl⟩ := frameActs_of_encode p h
  · rw [hacts, List.append_nil, busEvents_cmd]
  · rw [hacts, busEvents_append, busEvents_cmd, busEvents_waitBusy, List.append_nil]

/-- The frames read from the events of pieces are the encodings of the frames among them, in order (R79, R250). -/
theorem scanFrames_flatten {p : Params} (hm : 1 ≤ p.maxTxn) {ps : List Piece}
    (hown : ∀ acts, .own acts ∈ ps → ∀ a ∈ acts, a.busEvent = none) (dc : Option Level) (cur : Option RawFrame) :
    scanFrames p.dcCmdLevel dc cur (busEvents (flatten p ps)) = cur.toList ++ ps.flatMap Piece.rawFrames := by
  induction ps generalizing dc cur with
  | nil => exact (List.append_nil _).symm
  | cons x rest ih =>
    have ih := ih fun acts ha => hown acts (.tail _ ha)
    rw [flatten_cons, busEvents_append, List.flatMap_cons]
    cases x with
    | own acts => rw [pieceActs_own, busEvents_eq_nil (hown acts (.head _))]; exact ih dc cur
    | frame f =>
      rw [pieceActs_frame]
      cases he : encode f with
      | hostop op args =>
        rw [frameActs_of_encode_hostop p he, Piece.rawFrames, he]
        exact ih dc cur
      | cmdframe op payload =>
        obtain ⟨dc', h⟩ := scanFrames_frameTrace hm op payload dc cur (busEvents (flatten p rest))
        rw [busEvents_frameActs p he, h, ih, rawFrames_of_encode he]
        rfl

/-- The frames of a trace that pieces make (R79). -/
theorem Follows.traceFrames_eq {p : Params} (hm : 1 ≤ p.maxTxn) {ps : List Piece} {tr : List Event}
    (h : Follows p (flatten p ps) tr) (hown : ∀ acts, .own acts ∈ ps → ∀ a ∈ acts, a.busEvent = none) :
    traceFrames p.dcCmdLevel tr = ps.flatMap Piece.rawFrames := by
  rw [traceFrames, h.scanFrames_eq, scanFrames_flatten hm hown]
  rfl

/-- The events of one frame are read as that frame (R79). -/
theorem traceFrames_frameTrace {p : Params} (hm : 1 ≤ p.maxTxn) (op : Byte) (payload : List Byte) :
    traceFrames p.dcCmdLevel (frameTrace p op payload) = [⟨[op], payload⟩] := by
  obtain ⟨dc', h⟩ := scanFrames_frameTrace hm op payload none none []
  rw [List.append_nil] at h
  exact h

/-- Where the operation in flight is about to send a frame, running the frame makes its CMD's events (R102, R250). -/
theorem reaches_frameTrace {s : State} {q f : Instr} {before after : List Piece} {op : Byte} {payload : List Byte}
    (he : encode f = .cmdframe op payload) (hp : pieces s.params q = before ++ .frame f :: after)
    (hk : s.At q (flatten s.params before).length) (hd : Supplies s (frameTrace s.params op payload)) :
    ∃ k, Reaches f s ((s.observeAll (frameTrace s.params op payload)).goto k) := by
  obtain ⟨wait, hacts, -⟩ := frameActs_of_encode s.params he
  have hscript : script s.params q =
      flatten s.params before ++ (cmd s.params op payload ++ (wait ++ flatten s.params after)) := by
    simp [script, hp, hacts]
  exact ⟨_, (Follows.ofCmd s.params op payload).reaches (.frame hp) rfl (Nat.le_refl _) (by simp [hacts]) hk hscript hd⟩

/-- Settles O5: the frame's run makes the events of its CMD, which are read as the encoding it decodes from. -/
theorem frameIsReadBackFromItsTrace : Obligations.FrameIsReadBackFromItsTrace := by
  intro s q i before after op payload hc hw he hp hk hd
  obtain ⟨k, hrun⟩ := reaches_frameTrace he hp hk hd
  refine ⟨_, frameTrace s.params op payload, hrun, by simp, traceFrames_frameTrace (maxTxn_pos_of_configOk hc) op payload, ?_⟩
  rw [← he]
  exact decode_encode_frame hc (isFrame_of_encode he) hw

end Sys2Proof.Machine
end

section
/-! That every frame an operation sends is well formed (O6; 47_controller_commands.md R250): its pieces are, once its
argument checks hold, and the checks stand before the frames. -/

namespace Sys2Proof.Machine

/-! ## The arguments of an operation -/

/-- The argument and window checks of an operation hold (R163, R201, R202). -/
def ArgumentsAccepted (p : Params) : Instr → Prop
  | .loadBaseMap data _ => baseMapOk p data = true
  | .drawRegion x y bits wb hr _ => DrawAccepted p x y (bufBytes bits) wb hr
  | _ => True

/-- The checks of `drawRegion`, as its rules say them (R201, R202). -/
theorem drawAccepted_iff {p : Params} {x y : U16} {bits : BufRef} {wb hr : U16} :
    DrawAccepted p x y (bufBytes bits) wb hr ↔
      dimsNonzero wb hr = true ∧ widthAligned wb = true ∧ regionLengthOk bits (drawWindow x y wb hr) = true
        ∧ windowInPanel p (drawWindow x y wb hr) = true := by
  simp only [dimsNonzero, widthAligned, regionLengthOk, windowInPanel, Bool.and_eq_true, decide_eq_true_eq]
  simp [DrawAccepted, windowXEnd, windowYEnd, windowBytes, drawWindow, alignDown8, and_assoc]

/-- Where a list of pieces begins with own acts, its frames lie past them. -/
theorem length_le_of_frameAt {p : Params} {acts : List Act} {ps : List Piece} {k : Nat} {x : Instr × Nat}
    (h : frameAt p (.own acts :: ps) k = some x) : acts.length ≤ k := by
  rw [frameAt] at h
  split at h
  · cases h
  · omega

/-- An operation that is sending a frame has passed its argument checks (R201, R202, R303). -/
theorem argumentsAccepted_of_frameOf {s : State} (h : Consistent s) {q f : Instr} {k j : Nat} (hk : s.At q k)
    (hf : frameOf s.params q k = some (f, j)) : ArgumentsAccepted s.params q := by
  cases q
  case loadBaseMap data fast =>
    have hlen : 2 ≤ k := length_le_of_frameAt hf
    exact h.checks _ k 1 (.requireArg _) hk (by omega) rfl
  case drawRegion x y bits wb hr defer =>
    have hlen : 6 ≤ k := length_le_of_frameAt hf
    refine drawAccepted_iff.2 ⟨h.checks _ k 2 (.requireArg _) hk (by omega) rfl, h.checks _ k 3 (.requireArg _) hk (by omega) rfl,
      h.checks _ k 4 (.requireArg _) hk (by omega) rfl, h.checks _ k 5 (.requireWindow _) hk (by omega) rfl⟩
  all_goals trivial

/-! ## Well-formed pieces -/

/-- The sizes of a panel under R7. -/
structure PanelSizes (p : Params) : Prop where
  width : 0 < p.w
  height : 0 < p.h
  widthAligned : p.w % 8 = 0
  width_le : p.w ≤ 65536
  height_le : p.h ≤ 65536

theorem panelSizes_of_configOk {p : Params} (hc : configOk p = true) : PanelSizes p := by
  simp only [configOk, Bool.and_eq_true, decide_eq_true_eq] at hc
  obtain ⟨⟨⟨⟨⟨⟨⟨⟨⟨⟨hw, hh⟩, ha⟩, hwle⟩, hhle⟩, -⟩, -⟩, -⟩, -⟩, -⟩, -⟩ := hc
  exact ⟨hw, hh, ha, by omega, by omega⟩

/-- A frame buffer is not empty (R31). -/
theorem PanelSizes.frameBytes_pos {p : Params} (h : PanelSizes p) : 0 < p.frameBytes := by
  have hw := h.width
  have ha := h.widthAligned
  have h8 : 8 * 1 ≤ p.w * p.h := Nat.mul_le_mul (by omega) h.height
  rw [Params.frameBytes]
  omega

/-- Every frame among the pieces is well formed. -/
def FramesWellFormed (p : Params) (ps : List Piece) : Prop := ∀ f, .frame f ∈ ps → WellFormed p f = true

@[simp] theorem framesWellFormed_nil (p : Params) : FramesWellFormed p [] := by simp [FramesWellFormed]

@[simp] theorem framesWellFormed_own (p : Params) (acts : List Act) (ps : List Piece) :
    FramesWellFormed p (.own acts :: ps) ↔ FramesWellFormed p ps := by simp [FramesWellFormed]

@[simp] theorem framesWellFormed_frame (p : Params) (f : Instr) (ps : List Piece) :
    FramesWellFormed p (.frame f :: ps) ↔ WellFormed p f = true ∧ FramesWellFormed p ps := by simp [FramesWellFormed]

@[simp] theorem framesWellFormed_append (p : Params) (ps qs : List Piece) :
    FramesWellFormed p (ps ++ qs) ↔ FramesWellFormed p ps ∧ FramesWellFormed p qs := by
  simp only [FramesWellFormed, List.mem_append, or_imp, forall_and]

/-- LOAD_LUT of one of the two tables (R180). -/
theorem framesWellFormed_loadLut {p : Params} {t : List Byte} (ht : t ∈ p.tables) : FramesWellFormed p (loadLut p t) := by
  have hany : ∀ f : List Byte → Bool, f t = true → p.tables.any f = true := fun f hf => List.any_eq_true.2 ⟨t, ht, hf⟩
  simp only [loadLut, framesWellFormed_frame, framesWellFormed_nil, and_true, WellFormed]
  refine ⟨hany _ ?_, hany _ ?_, hany _ ?_, hany _ ?_⟩ <;> exact decide_eq_true rfl

theorem framesWellFormed_fullTrigger (p : Params) : FramesWellFormed p (fullTrigger p) := by
  rw [fullTrigger, framesWellFormed_append]
  exact ⟨framesWellFormed_loadLut (by simp [Params.tables]), by simp [updateAndTrigger, WellFormed]⟩

theorem framesWellFormed_partialTrigger (p : Params) : FramesWellFormed p (partialTrigger p) := by
  rw [partialTrigger, framesWellFormed_append]
  exact ⟨framesWellFormed_loadLut (by simp [Params.tables]), by simp [updateAndTrigger, WellFormed]⟩

theorem framesWellFormed_baseMapTrigger (p : Params) (fast : Bool) : FramesWellFormed p (baseMapTrigger p fast) := by
  cases fast
  · exact framesWellFormed_fullTrigger p
  · exact framesWellFormed_partialTrigger p

/-- SET_WINDOW of a window in the panel, its X edges on 8-pixel boundaries (R55, R106). -/
theorem framesWellFormed_setWindow {p : Params} (h : PanelSizes p) {xs xe ys ye : Nat} (hxs : xs % 8 = 0)
    (hxe : (xe + 1) % 8 = 0) (hx : xs ≤ xe) (hxw : xe < p.w) (hy : ys ≤ ye) (hyh : ye < p.h) :
    FramesWellFormed p (setWindow xs xe ys ye) := by
  have hw := h.width_le
  have hh := h.height_le
  have hnat : ∀ n < 65536, (BitVec.ofNat 16 n).toNat = n := fun n hn => Nat.mod_eq_of_lt hn
  simp only [setWindow, framesWellFormed_frame, framesWellFormed_nil, and_true, WellFormed, xWindowOk, yWindowOk,
    Bool.and_eq_true, decide_eq_true_eq, hnat xs (by omega), hnat xe (by omega), hnat ys (by omega), hnat ye (by omega)]
  omega

theorem framesWellFormed_setFullWindow {p : Params} (h : PanelSizes p) : FramesWellFormed p (setFullWindow p) := by
  have hw := h.width
  have hh := h.height
  have ha := h.widthAligned
  exact framesWellFormed_setWindow h (Nat.zero_mod 8) (by omega) (Nat.zero_le _) (by omega) (Nat.zero_le _) (by omega)

theorem framesWellFormed_hardwareInit {p : Params} (h : PanelSizes p) : FramesWellFormed p (hardwareInitPieces p) := by
  have hh := h.height_le
  have hgate : (BitVec.ofNat 16 (p.h - 1)).toNat = p.h - 1 := Nat.mod_eq_of_lt (by omega)
  simp [hardwareInitPieces, programRegisters, updateAndTrigger, framesWellFormed_setFullWindow h, WellFormed, hgate]

theorem framesWellFormed_clear {p : Params} (h : PanelSizes p) (fill : Byte) : FramesWellFormed p (clearPieces p fill) := by
  simp [clearPieces, framesWellFormed_setFullWindow h, framesWellFormed_fullTrigger, WellFormed, h.frameBytes_pos]

/-- The image of `loadBaseMap` is the whole buffer it is given (R163). -/
theorem memRead_baseMap {p : Params} {data : BufRef} (h : baseMapOk p data = true) :
    memRead (bufBytes data) 0 p.frameBytes = bufBytes data ∧ (bufBytes data).length = p.frameBytes := by
  cases data with
  | none => cases h
  | some img =>
    have hlen : img.length = p.frameBytes := of_decide_eq_true h
    exact ⟨List.take_of_length_le (Nat.le_of_eq hlen), hlen⟩

theorem framesWellFormed_loadBaseMap {p : Params} (h : PanelSizes p) {data : BufRef} {fast : Bool}
    (hargs : baseMapOk p data = true) : FramesWellFormed p (loadBaseMapPieces p data fast) := by
  obtain ⟨himg, hlen⟩ := memRead_baseMap hargs
  simp [loadBaseMapPieces, framesWellFormed_setFullWindow h, framesWellFormed_baseMapTrigger, WellFormed, himg, hlen,
    h.frameBytes_pos]

/-- The image of `drawRegion` is the whole buffer it is given (R201, R205). -/
theorem memRead_region {p : Params} {x y : U16} {bits : BufRef} {wb hr : U16}
    (h : DrawAccepted p x y (bufBytes bits) wb hr) :
    memRead (bufBytes bits) 0 (windowBytes (drawWindow x y wb hr)) = bufBytes bits := by
  obtain ⟨-, -, -, hlen, -, -⟩ := h
  exact List.take_of_length_le (Nat.le_of_eq hlen)

/-- The window of an accepted `drawRegion` is sent well formed (R203). -/
theorem framesWellFormed_drawWindow {p : Params} (h : PanelSizes p) {x y : U16} {img : List Byte} {wb hr : U16}
    (hargs : DrawAccepted p x y img wb hr) :
    FramesWellFormed p (setWindow (drawWindow x y wb hr).xStart (windowXEnd (drawWindow x y wb hr))
      (drawWindow x y wb hr).yStart (windowYEnd (drawWindow x y wb hr))) := by
  obtain ⟨hwb, hhr, halign, -, hxe, hye⟩ := hargs
  simp only [windowXEnd, windowYEnd, drawWindow, alignDown8]
  exact framesWellFormed_setWindow h (by omega) (by omega) (by omega) hxe (by omega) hye

/-- The image of an accepted `drawRegion` is not empty and no larger than the frame (R202, R205). -/
theorem wellFormed_drawImage {p : Params} {x y : U16} {img : List Byte} {wb hr : U16}
    (hargs : DrawAccepted p x y img wb hr) : WellFormed p (.writeRamOld img) = true := by
  obtain ⟨hwb, hhr, halign, hlen, hxe, hye⟩ := hargs
  have hmin : 1 * 8 ≤ hr.toNat * wb.toNat := Nat.mul_le_mul (by omega) (by omega)
  have hmax : hr.toNat * wb.toNat ≤ p.h * p.w := Nat.mul_le_mul (by omega) (by omega)
  rw [Nat.mul_comm p.h] at hmax
  simp only [WellFormed, Bool.and_eq_true, decide_eq_true_eq]
  rw [Params.frameBytes]
  omega

theorem framesWellFormed_drawRegion {p : Params} (h : PanelSizes p) {x y : U16} {bits : BufRef} {wb hr : U16}
    {defer : Bool} (hargs : DrawAccepted p x y (bufBytes bits) wb hr) :
    FramesWellFormed p (drawRegionPieces p x y bits wb hr defer) := by
  have hwindow := framesWellFormed_drawWindow h hargs
  have himg := wellFormed_drawImage hargs
  cases defer <;> simp [drawRegionPieces, memRead_region hargs, hwindow, himg, framesWellFormed_partialTrigger]

/-- The frames of an operation whose arguments are accepted are well formed (R250). -/
theorem framesWellFormed_pieces {p : Params} (hc : configOk p = true) {q : Instr} (hargs : ArgumentsAccepted p q) :
    FramesWellFormed p (pieces p q) := by
  have hsizes := panelSizes_of_configOk hc
  cases q
  case init => simp [pieces, initPieces]
  case deinit => simp [pieces, deinitPieces]
  case hardwareInit fast => exact framesWellFormed_hardwareInit hsizes
  case clear fill => exact framesWellFormed_clear hsizes fill
  case loadBaseMap data fast => exact framesWellFormed_loadBaseMap hsizes hargs
  case drawRegion x y bits wb hr defer => exact framesWellFormed_drawRegion hsizes hargs
  case triggerRefresh => simp [pieces, triggerRefreshPieces, framesWellFormed_partialTrigger]
  case deepSleep => simp [pieces, deepSleepPieces, WellFormed]
  all_goals exact framesWellFormed_nil p

/-! ## A step that sends -/

/-- An entry of the flat list is an own act of a piece, or an act of the frame that lies there. -/
theorem flatten_entry_cases {p : Params} {ps : List Piece} {k : Nat} {a : Act} (h : (flatten p ps)[k]? = some a) :
    (∃ acts, .own acts ∈ ps ∧ a ∈ acts) ∨ ∃ f j, frameAt p ps k = some (f, j) ∧ (frameActs p f)[j]? = some a := by
  induction ps generalizing k with
  | nil => cases h
  | cons x rest ih =>
    rw [flatten_cons] at h
    rcases Nat.lt_or_ge k (pieceActs p x).length with hk | hk
    · rw [List.getElem?_append_left hk] at h
      cases x with
      | own acts => exact .inl ⟨acts, .head _, List.mem_of_getElem? h⟩
      | frame f => exact .inr ⟨f, k, if_pos hk, h⟩
    · rw [List.getElem?_append_right hk] at h
      rcases ih h with ⟨acts, hmem, ha⟩ | ⟨f, j, hf, ha⟩
      · exact .inl ⟨acts, .tail _ hmem, ha⟩
      · refine .inr ⟨f, j, ?_, ha⟩
        rw [← hf]
        cases x with
        | own acts | frame g => exact if_neg (Nat.not_lt.2 hk)

/-- A transaction of a script lies in a frame (R250). -/
theorem frameOf_of_xfer {p : Params} {q : Instr} {k : Nat} {bytes : List Byte}
    (h : (script p q)[k]? = some (.xfer bytes)) :
    ∃ f j, frameOf p q k = some (f, j) ∧ (frameActs p f)[j]? = some (.xfer bytes) := by
  rcases flatten_entry_cases h with ⟨acts, hmem, ha⟩ | hframe
  · cases busEvent_of_mem_ownActs (List.mem_flatMap.2 ⟨_, hmem, ha⟩)
  · exact hframe

/-- A script entry that adds a transaction to the trace is that transaction. -/
theorem perform_adds_xfer {a : Act} {k : Nat} {s t : State} {bytes : List Byte} (h : perform a k s = .next t)
    (ht : t.trace = s.trace ++ [.xfer bytes]) : a = .xfer bytes := by
  rcases perform_next h with ⟨-, -, rfl⟩ | ⟨-, r, rfl⟩ | ⟨e, he, -, rfl⟩ | ⟨e, c, he, -, -, rfl⟩
  · simp at ht
  · simp at ht
  · obtain rfl : e = .xfer bytes := by simpa using ht
    exact Act.eq_xfer_of_event he
  · obtain rfl : e = .xfer bytes := by simpa using ht
    exact Act.eq_xfer_of_event he

/-- A step that adds a transaction performs that entry of the operation in flight (R101). -/
theorem step_adds_xfer {s t : State} {bytes : List Byte} (h : step s = .next t)
    (ht : t.trace = s.trace ++ [.xfer bytes]) :
    configOk s.params = true ∧ ∃ q k, s.At q k ∧ (script s.params q)[k]? = some (.xfer bytes) := by
  obtain ⟨u, ⟨rs, ts, n, rfl⟩, rfl | ⟨r, rfl⟩ | ⟨i, -, -, rfl⟩ | ⟨i, k, a, hc, hk, ha, hp⟩ | rfl⟩ := step_next h
  · simp at ht
  · simp at ht
  · simp at ht
  · obtain rfl := perform_adds_xfer hp ht
    exact ⟨hc, i, k, hk, ha⟩
  · simp at ht

/-- A step that adds a transaction from a consistent state sends it inside a well-formed frame (R250). -/
theorem step_sends_wellFormed {s t : State} {bytes : List Byte} (hs : Consistent s) (h : step s = .next t)
    (ht : t.trace = s.trace ++ [.xfer bytes]) :
    ∃ q k f j, s.At q k ∧ frameOf s.params q k = some (f, j) ∧ f.isFrame = true ∧ WellFormed s.params f = true
      ∧ (frameActs s.params f)[j]? = some (.xfer bytes) := by
  obtain ⟨hc, q, k, hk, hx⟩ := step_adds_xfer h ht
  obtain ⟨f, j, hf, ha⟩ := frameOf_of_xfer hx
  obtain ⟨before, after, hp, -, -⟩ := frameAt_cases hf
  have hw := framesWellFormed_pieces hc (argumentsAccepted_of_frameOf hs hk hf) f (by simp [hp])
  exact ⟨q, k, f, j, hk, hf, frameOf_isFrame hf, hw, ha⟩

end Sys2Proof.Machine
end

section
/-! The runs of the six operations that send frames (O6): past its checks the pieces of each follow its trace, and the
frames read from that trace are the encodings of well-formed frames. -/

namespace Sys2Proof.Machine

/-! ## The traces of the pieces past the checks -/

/-- Pieces one after the other make their traces one after the other. -/
theorem Follows.pieces_append {p : Params} {ps qs : List Piece} {es fs : List Event} (h : Follows p (flatten p ps) es)
    (h' : Follows p (flatten p qs) fs) : Follows p (flatten p (ps ++ qs)) (es ++ fs) := by
  rw [flatten_append]
  exact h.append h'

/-- One frame without a wait, whose acts are its CMD. -/
theorem Follows.ofFrame {p : Params} {f : Instr} {op : Byte} {payload : List Byte}
    (h : frameActs p f = cmd p op payload) : Follows p (flatten p [.frame f]) (frameTrace p op payload) := by
  simpa [h] using Follows.ofCmd p op payload

/-- SOFT_RESET and its wait (R251). -/
theorem Follows.ofSoftReset (p : Params) (n : Nat) :
    Follows p (flatten p [.frame .softReset]) (frameTrace p 0x12 [] ++ waitTrace p n) := by
  simpa [frameActs, softResetActs] using Follows.ofCmdWait p 0x12 [] n

/-- The registers of bring-up (R141). -/
theorem Follows.ofProgramRegisters (p : Params) :
    Follows p (flatten p (programRegisters p))
      (frameTrace p 0x01 (le16 (p.h - 1) ++ p.pDrvOutTail) ++ frameTrace p 0x0C p.pBooster
        ++ frameTrace p 0x11 p.pDataEntry ++ fullWindowTrace p ++ frameTrace p 0x3C p.pBorder
        ++ frameTrace p 0x18 p.pTempSensor) := by
  have hgate : frameActs p (.driverOutputControl (BitVec.ofNat 16 (p.h - 1)) p.pDrvOutTail)
      = cmd p 0x01 (le16 (p.h - 1) ++ p.pDrvOutTail) := by simp [frameActs, driverOutputControlActs]
  have hhead := (Follows.ofFrame hgate).pieces_append ((Follows.ofFrame (f := .boosterSoftStart p.pBooster) rfl).pieces_append
    (Follows.ofFrame (f := .dataEntryMode p.pDataEntry) rfl))
  have htail := (Follows.ofFrame (f := .borderSelect p.pBorder) (p := p) rfl).pieces_append
    (Follows.ofFrame (f := .tempSensorSelect p.pTempSensor) rfl)
  have := (hhead.pieces_append (Follows.ofSetWindow p 0 (p.w - 1) 0 (p.h - 1))).pieces_append htail
  simpa only [programRegisters, setFullWindow, fullWindowTrace, List.cons_append, List.nil_append, List.append_assoc]
    using this

/-- The pieces of `hardwareInit` past its check. -/
def hardwareInitRest (p : Params) : List Piece :=
  [.own (resetPulse p ++ waitBusy p), .frame .softReset] ++ programRegisters p ++ updateAndTrigger p.cleanStartCtrl

theorem Follows.ofHardwareInitRest (p : Params) (n1 n2 n3 : Nat) :
    Follows p (flatten p (hardwareInitRest p)) (hardwareInitTrace p n1 n2 n3) := by
  have hpulse : Follows p (flatten p [.own (resetPulse p ++ waitBusy p)]) (resetPulseTrace p ++ waitTrace p n1) := by
    simpa using (Follows.ofResetPulse p).append (.ofWaitBusy p n1)
  have := ((hpulse.pieces_append (.ofSoftReset p n2)).pieces_append (.ofProgramRegisters p)).pieces_append
    (.ofUpdateAndTrigger p p.cleanStartCtrl n3)
  simpa only [hardwareInitRest, hardwareInitTrace, List.cons_append, List.nil_append, List.append_assoc] using this

/-- The pieces of `loadBaseMap` past its checks, for the image it sends. -/
def baseMapRest (p : Params) (img : List Byte) (fast : Bool) : List Piece :=
  setFullWindow p ++ [.frame (.writeRamOld img), .frame (.writeRamNew img)] ++ baseMapTrigger p fast

theorem Follows.ofBaseMapTrigger (p : Params) (fast : Bool) (n m : Nat) :
    Follows p (flatten p (baseMapTrigger p fast)) (if fast then partialTriggerTrace p n m else fullTriggerTrace p n m) := by
  cases fast
  · exact .ofFullTrigger p n m
  · exact .ofPartialTrigger p n m

theorem Follows.ofBaseMapRest (p : Params) (img : List Byte) (fast : Bool) (n m : Nat) :
    Follows p (flatten p (baseMapRest p img fast)) (baseMapTrace p img fast n m) := by
  have himg := (Follows.ofFrame (p := p) (f := .writeRamOld img) rfl).pieces_append (Follows.ofFrame (f := .writeRamNew img) rfl)
  have := ((Follows.ofSetWindow p 0 (p.w - 1) 0 (p.h - 1)).pieces_append himg).pieces_append (.ofBaseMapTrigger p fast n m)
  simpa only [baseMapRest, setFullWindow, baseMapTrace, fullWindowTrace, List.cons_append, List.nil_append,
    List.append_assoc] using this

/-- The pieces of `drawRegion` past its checks, for the window and the image it sends. -/
def drawRest (p : Params) (win : RefreshWindow) (img : List Byte) (defer : Bool) : List Piece :=
  [.own (resetPulse p)] ++ setWindow win.xStart (windowXEnd win) win.yStart (windowYEnd win)
    ++ [.frame (.writeRamOld img)] ++ if defer then [] else partialTrigger p

theorem Follows.ofDrawRest (p : Params) (x y wb hr : U16) (img : List Byte) (defer : Bool) (n m : Nat) :
    Follows p (flatten p (drawRest p (drawWindow x y wb hr) img defer))
      (drawTrace p x.toNat y.toNat img wb.toNat hr.toNat defer n m) := by
  have hpulse : Follows p (flatten p [.own (resetPulse p)]) (resetPulseTrace p) := by
    simpa using Follows.ofResetPulse p
  have htrigger : Follows p (flatten p (if defer then [] else partialTrigger p))
      (if defer then [] else partialTriggerTrace p n m) := by
    cases defer
    · exact .ofPartialTrigger p n m
    · exact .nil
  exact ((hpulse.pieces_append (.ofSetWindow p _ _ _ _)).pieces_append
    (Follows.ofFrame (f := .writeRamOld img) rfl)).pieces_append htrigger

/-! ## From an idle Ready block to the end -/

/-- How an operation that sends frames is made: checks `cs` that hold on a Ready block, then pieces that follow `tr`. -/
structure RunsAs (p : Params) (i : Instr) (tr : List Event) (cs : List Act) (ps : List Piece) : Prop where
  operation : isOperation i = true
  accepted : ArgumentsAccepted p i
  pieces_eq : pieces p i = .own cs :: ps
  checks : ∀ s : State, s.drv = .ready → ∀ a ∈ cs, a.Holds s
  follows : Follows p (flatten p ps) tr

/-- Each operation that sends frames, by its rule (R126, R140, R160, R163, R184, R200). -/
theorem runsAs_of_operationTrace {p : Params} {i : Instr} {tr : List Event} (h : OperationTrace p i tr) :
    ∃ cs ps, RunsAs p i tr cs ps := by
  have hready : ∀ s : State, s.drv = .ready → ∀ a ∈ [Act.requireReady], a.Holds s := fun s hs => by simpa [Act.Holds] using hs
  cases i
  case hardwareInit fast =>
    obtain ⟨n1, n2, n3, rfl⟩ := h
    exact ⟨[.requireReady], hardwareInitRest p, rfl, trivial, rfl, hready, .ofHardwareInitRest p n1 n2 n3⟩
  case clear fill =>
    obtain ⟨n, m, rfl⟩ := h
    exact ⟨[.requireReady], clearFrames p fill, rfl, trivial, rfl, hready, .ofClearFrames p fill n m⟩
  case loadBaseMap data fast =>
    cases data with
    | none => cases h
    | some img =>
      obtain ⟨hlen, n, m, rfl⟩ := h
      have hok : baseMapOk p (some img) = true := decide_eq_true hlen
      refine ⟨[.requireReady, .requireArg (baseMapOk p (some img))], baseMapRest p img fast, rfl, hok, ?_, fun s hs => ?_,
        .ofBaseMapRest p img fast n m⟩
      · rw [pieces, loadBaseMapPieces, (memRead_baseMap hok).1]
        rfl
      · simp [Act.Holds, hs, hok]
  case drawRegion x y bits wb hr defer =>
    cases bits with
    | none => cases h
    | some img =>
      obtain ⟨hargs, n, m, rfl⟩ := h
      obtain ⟨hdims, halign, hlen, hwin⟩ := drawAccepted_iff (bits := some img).1 hargs
      refine ⟨.requireReady :: drawChecks (some img) wb hr (drawWindow x y wb hr)
          ++ [.requireWindow (windowInPanel p (drawWindow x y wb hr))],
        drawRest p (drawWindow x y wb hr) img defer, rfl, hargs, ?_, fun s hs => ?_, .ofDrawRest p x y wb hr img defer n m⟩
      · rw [pieces, drawRegionPieces, memRead_region hargs]
        rfl
      · simp [drawChecks, Act.Holds, hs, bufPresent, hdims, halign, hlen, hwin]
  case triggerRefresh =>
    obtain ⟨n, m, rfl⟩ := h
    exact ⟨[.requireReady], partialTrigger p, rfl, trivial, rfl, hready, .ofPartialTrigger p n m⟩
  case deepSleep =>
    obtain rfl := h
    exact ⟨[.requireReady], [.frame (.deepSleepFrame p.pDeepSleep)], rfl, trivial, rfl, hready, .ofFrame rfl⟩
  all_goals cases h

/-- From an idle Ready block the operation makes its trace and ends with `Ok` (R109). -/
theorem RunsAs.reaches {s : State} {i : Instr} {tr : List Event} {cs : List Act} {ps : List Piece}
    (h : RunsAs s.params i tr cs ps) (hidle : s.Idle) (hready : s.drv = .ready) (hd : Supplies s tr) :
    Reaches i s ((s.observeAll tr).finish .ok) := by
  have hscript : script s.params i = cs ++ flatten s.params ps := by
    rw [script, h.pieces_eq, flatten_cons, pieceActs_own]
  exact .completes h.operation hidle hscript (h.checks s hready) h.follows hd

theorem RunsAs.mem_pieces {p : Params} {i : Instr} {tr : List Event} {cs : List Act} {ps : List Piece}
    (h : RunsAs p i tr cs ps) {x : Piece} (hx : x ∈ ps) : x ∈ pieces p i := by
  rw [h.pieces_eq]
  exact .tail _ hx

/-- The frames read from the trace of an operation are encodings of well-formed frames (R79, R250). -/
theorem RunsAs.frames_wellFormed {p : Params} (hc : configOk p = true) {i : Instr} {tr : List Event} {cs : List Act}
    {ps : List Piece} (h : RunsAs p i tr cs ps) {r : RawFrame} (hr : r ∈ traceFrames p.dcCmdLevel tr) :
    ∃ op payload f, r = ⟨[op], payload⟩ ∧ encode f = .cmdframe op payload ∧ WellFormed p f = true := by
  have hown : ∀ acts, .own acts ∈ ps → ∀ a ∈ acts, a.busEvent = none := fun acts hacts a ha =>
    busEvent_of_mem_ownActs (List.mem_flatMap.2 ⟨.own acts, h.mem_pieces hacts, ha⟩)
  rw [h.follows.traceFrames_eq (maxTxn_pos_of_configOk hc) hown] at hr
  obtain ⟨x, hx, hr⟩ := List.mem_flatMap.1 hr
  obtain ⟨f, op, payload, rfl, he, rfl⟩ := mem_rawFrames hr
  exact ⟨op, payload, f, rfl, he, framesWellFormed_pieces hc h.accepted f (h.mem_pieces hx)⟩

/-- Settles O6: the transaction of a step lies in a frame among the pieces, and the frames read from a run's trace are the
encodings of those among the pieces; the pieces' frames are well formed once the argument checks hold. -/
theorem operationFramesAreWellFormed : Obligations.OperationFramesAreWellFormed := by
  refine ⟨fun s t bytes hs h ht => step_sends_wellFormed hs h ht, fun i s tr hc hidle hready htrace hd => ?_⟩
  obtain ⟨cs, ps, hruns⟩ := runsAs_of_operationTrace htrace
  refine ⟨_, hruns.reaches hidle hready hd, ⟨rfl, rfl⟩, by simp, by simp [Response.ok], fun r hr => ?_⟩
  obtain ⟨op, payload, f, rfl, he, hw⟩ := hruns.frames_wellFormed hc hr
  have hf := isFrame_of_encode he
  exact ⟨op, f, rfl, mem_opcodes_of_encode he, he ▸ decode_encode_frame hc hf hw, hf, hw⟩

end Sys2Proof.Machine
end

section
/-! The bus primitives (40_bus_primitives.md): the chunks of STREAM (O49) and those of `clear` at the reference geometry (O40),
the busy wait (O29), the frames that are one CMD, with or without a wait (O50, O52, O53), and the step that goes on with the
operation in flight (O9). -/

namespace Sys2Proof.Machine

/-! ## The chunks of STREAM -/

/-- A chunk that another one follows is full (R103). -/
theorem length_memRead_of_not_last {m i : Nat} {payload : List Byte} (hi : i + 1 < ceilDiv payload.length m) :
    (memRead payload (i * m) m).length = m := by
  have hm : 0 < m := by
    rcases Nat.eq_zero_or_pos m with rfl | hm
    · simp [ceilDiv] at hi
    · exact hm
  have hnext : (i + 1 + 1) * m ≤ payload.length + m - 1 := (Nat.le_div_iff_mul_le hm).1 hi
  rw [Nat.succ_mul, Nat.succ_mul] at hnext
  simp only [memRead, List.length_take, List.length_drop]
  omega

/-- Every chunk but the last is full (R103). -/
theorem length_of_mem_dropLast_chunks {m : Nat} {payload c : List Byte} (h : c ∈ (chunks m payload).dropLast) :
    c.length = m := by
  obtain ⟨i, hi, rfl⟩ := List.getElem_of_mem h
  rw [List.getElem_dropLast]
  simp only [chunks, List.length_dropLast, List.length_map, List.length_range] at hi
  simp only [chunks, List.getElem_map, List.getElem_range]
  exact length_memRead_of_not_last (by omega)

/-- Settles O49: the chunks are read one after the other, and one that another follows is full. -/
theorem streamChunksThePayload : Obligations.StreamChunksThePayload := fun m payload hm =>
  ⟨flatten_chunks hm payload, by simp [chunks, ceilDiv], fun _ hc => length_of_mem_dropLast_chunks hc,
    fun _ hc => length_of_mem_chunks (List.mem_of_getLast? hc)⟩

/-- The chunks of copies of one byte: full ones, and the rest (R103, R161). -/
theorem chunks_replicate {m r : Nat} (q : Nat) (b : Byte) (hr : 1 ≤ r) (hrm : r ≤ m) :
    chunks m (List.replicate (q * m + r) b) = List.replicate q (List.replicate m b) ++ [List.replicate r b] := by
  have hread : ∀ i, memRead (List.replicate (q * m + r) b) (i * m) m = List.replicate (min m (q * m + r - i * m)) b :=
    fun i => by simp [memRead]
  have hcount : ceilDiv (q * m + r) m = q + 1 := by
    rw [ceilDiv, Nat.div_eq_iff (by omega), Nat.succ_mul]
    omega
  have hfull : ∀ i ∈ List.range q, memRead (List.replicate (q * m + r) b) (i * m) m = List.replicate m b := by
    intro i hi
    have hnext : (i + 1) * m ≤ q * m := Nat.mul_le_mul_right m (List.mem_range.1 hi)
    rw [Nat.succ_mul] at hnext
    rw [hread, Nat.min_eq_left (by omega)]
  have hlast : memRead (List.replicate (q * m + r) b) (q * m) m = List.replicate r b := by
    rw [hread, Nat.min_eq_right (by omega), Nat.add_sub_cancel_left]
  rw [chunks, List.length_replicate, hcount, List.range_succ, List.map_append, List.map_congr_left hfull, List.map_const',
    List.length_range, List.map_singleton, hlast]

/-- The events of a frame whose payload is copies of one byte (R102, R103). -/
theorem frameTrace_replicate {p : Params} {r : Nat} (op : Byte) (q : Nat) (b : Byte) (hr : 1 ≤ r) (hrm : r ≤ p.maxTxn) :
    frameTrace p op (List.replicate (q * p.maxTxn + r) b) =
      [.setLine .dc p.dcCmdLevel, .xfer [op]]
        ++ (List.replicate q [Event.setLine .dc p.dcCmdLevel.other, .xfer (List.replicate p.maxTxn b)]).flatten
        ++ [.setLine .dc p.dcCmdLevel.other, .xfer (List.replicate r b)] := by
  rw [frameTrace, chunks_replicate q b hr hrm, List.flatMap_append, List.flatMap_replicate, List.flatMap_singleton,
    List.append_assoc]

/-- Settles O40: the 48000 bytes of the frame are eleven full chunks and one of 2944. -/
theorem clearSendsTwelveChunksAtReference : Obligations.ClearSendsTwelveChunksAtReference := by
  intro fill s n m tr hidle hready hw hh hmax htr hd
  have hbytes : s.params.frameBytes = 11 * s.params.maxTxn + 2944 := by rw [Params.frameBytes, hw, hh, hmax]
  have hclear : tr = clearTrace s.params fill n m := by
    rw [htr, clearTrace, hbytes, frameTrace_replicate _ _ _ (by omega) (by omega), hmax]
    simp only [List.append_assoc]
  rw [hclear] at hd ⊢
  exact ⟨(clearFillsTheFrameAndRefreshes fill s n m hidle hready hd).1, by simp, by rw [hbytes, hmax]⟩

/-! ## The busy wait -/

/-- The events of `n` samples that read 1, each with its delay (R104). -/
def highPolls (p : Params) (n : Nat) : List Event :=
  (List.replicate n [Event.sampleBusy .high, .delay p.busyPollMs]).flatten

theorem highPolls_succ (p : Params) (n : Nat) :
    highPolls p (n + 1) = .sampleBusy .high :: .delay p.busyPollMs :: highPolls p n := by
  simp [highPolls, List.replicate_succ]

/-- A sample that reads 1 and its delay lead back to the sample (R104). -/
theorem execTimes_poll {i : Instr} {s : State} {k : Nat} (hi : isOperation i = true) (hk : s.At i k)
    (hsample : (script s.params i)[k]? = some .sampleBusy)
    (hdelay : (script s.params i)[k + 1]? = some (.pollDelay s.params.busyPollMs)) (hb : s.busyLevel = .high) :
    execTimes 2 i s = .next (((s.observe (.sampleBusy .high)).observe (.delay s.params.busyPollMs)).goto k) := by
  have hfirst : exec i s = .next ((s.observe (.sampleBusy .high)).goto (k + 1)) := by
    rw [exec_entry hi hk hsample, perform_sample_high hb]
  have hsecond := exec_entry hi (hk.observe (.sampleBusy .high) (k + 1)) (by simpa using hdelay)
  rw [perform_pollDelay, State.observe_goto] at hsecond
  simp only [execTimes, hfirst, hsecond]
  rfl

/-- As long as the samples read 1, the operation makes them and their delays and stands at the same sample (R104, R306). -/
theorem execTimes_highPolls {i : Instr} (n : Nat) {s : State} {k : Nat} (hi : isOperation i = true) (hk : s.At i k)
    (hsample : (script s.params i)[k]? = some .sampleBusy)
    (hdelay : (script s.params i)[k + 1]? = some (.pollDelay s.params.busyPollMs))
    (hd : Supplies s (highPolls s.params n)) :
    execTimes (2 * n) i s = .next ((s.observeAll (highPolls s.params n)).goto k) := by
  induction n generalizing s with
  | zero => exact congrArg _ hk.goto_self.symm
  | succ n ih =>
    rw [highPolls_succ, Supplies_sample] at hd
    obtain ⟨hb, hrest⟩ := hd
    have hnext := ih (s := ((s.observe (.sampleBusy .high)).observe (.delay s.params.busyPollMs)).goto k)
      ⟨by simp [hk.1], rfl⟩ (by simpa using hsample) (by simpa using hdelay)
      ((Supplies_goto _ _ k).2 hrest)
    rw [Nat.mul_succ, Nat.add_comm, execTimes_add (execTimes_poll hi hk hsample hdelay hb), hnext, highPolls_succ]
    simp [State.observeAll_goto]

/-- Settles O29, by induction on the number of samples that read 1. -/
theorem busyWaitNeverTimesOut : Obligations.BusyWaitNeverTimesOut := by
  intro i s k n hi hk hsample hdelay hd
  exact ⟨_, execTimes_highPolls n hi hk hsample hdelay hd, ⟨by simp [hk.1], rfl⟩, by simp, by simp [highPolls]⟩

/-! ## Frames that are one CMD -/

/-- A frame whose acts are one CMD and a busy wait completes as both, however often the wait reads 1 (R102, R104). -/
theorem completesAsFrame_of_cmdWait {s : State} {f : Instr} {op : Byte} {payload : List Byte} (n : Nat)
    (hf : frameActs s.params f = cmd s.params op payload ++ waitBusy s.params) :
    CompletesAsFrame s f op payload (waitTrace s.params n) := by
  refine completesAsFrame_of_follows ?_
  rw [hf]
  exact .ofCmdWait s.params op payload n

/-- Settles O50: the acts of both frames are one CMD without payload and a busy wait. -/
theorem bareFramesComplete : Obligations.BareFramesComplete := fun _ n =>
  ⟨completesAsFrame_of_cmdWait n rfl, completesAsFrame_of_cmdWait n rfl⟩

/-- Settles O52: the acts of each of the five frames are one CMD with the literal. -/
theorem literalFramesComplete : Obligations.LiteralFramesComplete := fun _ _ =>
  ⟨completesAsFrame_of_cmd rfl, completesAsFrame_of_cmd rfl, completesAsFrame_of_cmd rfl, completesAsFrame_of_cmd rfl,
    completesAsFrame_of_cmd rfl⟩

/-- Settles O53: the acts of each frame are one CMD with its bytes, and those of WRITE_LUT a busy wait after it. -/
theorem dataFramesComplete : Obligations.DataFramesComplete := fun _ _ _ _ _ n =>
  ⟨completesAsFrame_of_cmd rfl, completesAsFrame_of_cmd rfl, completesAsFrame_of_cmdWait n rfl, completesAsFrame_of_cmd rfl,
    completesAsFrame_of_cmd rfl, completesAsFrame_of_cmd rfl, completesAsFrame_of_cmd rfl⟩

/-! ## The step beside no waiting `pack` -/

theorem packWaits_eq_false {s : State} (h : ∀ args later, s.requests ≠ ⟨0x09, args⟩ :: later) : packWaits s = false := by
  unfold packWaits
  split
  · rename_i q later hq
    obtain ⟨op, args⟩ := q
    exact decide_eq_false fun hop : op = 0x09 => h args later (hop ▸ hq)
  · rfl

/-- Where no `pack` waits, the sequencer goes on with the operation in flight (R109, R312). -/
theorem nextMove_inFlight {s : State} {i : Instr} (hc : configOk s.params = true) (hcur : s.cur = some i)
    (hp : packWaits s = false) : nextMove s = .run (s.issued i) s := by
  simp [nextMove, hc, hcur, hp]

/-- Settles O9: what the sequencer issues makes the operation's own step, and so does a frame it is sending. -/
theorem stepContinuesRequestInFlight : Obligations.StepContinuesRequestInFlight := by
  intro s i hc hcur hq
  have hstep : step s = exec i s := by
    rw [step, nextMove_inFlight hc hcur (packWaits_eq_false hq)]
    exact exec_issued hcur
  exact ⟨hstep, fun k f j hpc hf => hstep.trans (exec_sent ⟨hcur, hpc⟩ hf).symm⟩

end Sys2Proof.Machine
end

section
/-! `init`, `deinit` and `deepSleep` (O31–O36; 41_lifecycle.md): a check that ends the operation from an idle block leaves one
response and nothing else, the acquisition that fails is an event and an error, and `deinit` has no entry that fails. -/

namespace Sys2Proof.Machine

/-! ## A check that ends the operation -/

/-- An operation that ends where nothing has been written yet leaves an idle block with one response more (R309). -/
theorem State.Idle.finish_eq {s : State} (h : s.Idle) (r : Response) :
    s.finish r = { s with responses := s.responses ++ [r] } := by
  obtain ⟨hcur, hpc⟩ := h
  rw [State.finish, State.respond, ← hcur, ← hpc]

/-- From an idle block an operation whose leading checks hold and whose next entry ends it with `r` leaves that response and
nothing else (R309). -/
theorem Reaches.endsAtCheck {i : Instr} (hi : isOperation i = true) {cs post : List Act} {a : Act} {s : State} {r : Response}
    (hidle : s.Idle) (hs : script s.params i = cs ++ a :: post) (hc : ∀ b ∈ cs, b.Holds s)
    (ha : perform a cs.length ((s.accept i).goto cs.length) = .next (s.finish r)) :
    Reaches i s { s with responses := s.responses ++ [r] } := by
  have hend : exec i ((s.accept i).goto cs.length) = .next (s.finish r) := by
    rw [exec_entry hi ⟨rfl, rfl⟩ (a := a) (by simp [hs]), ha]
  rw [← hidle.finish_eq]
  exact (Reaches.acceptAndCheck hi hidle hs hc).trans (.step hend)

/-! ## `init` -/

/-- The argument check of `init` fails when one of the four identifiers is out of range (R123). -/
theorem initLinesOk_eq_false {p : Params} {dc rst busy cs : LineId} (h : ∃ l ∈ [dc, rst, busy, cs], l ∉ p.validLines) :
    initLinesOk p dc rst busy cs = false := by
  obtain ⟨l, hl, hinvalid⟩ := h
  exact Bool.eq_false_iff.2 fun hok => hinvalid (initLinesOk_iff.1 hok l hl)

/-- Settles O31: the argument check is the first entry of the script. -/
theorem initWithInvalidLineGivesInvalidArgument : Obligations.InitWithInvalidLineGivesInvalidArgument := by
  intro s bus dc rst busy cs hz hidle hinvalid
  refine .endsAtCheck rfl hidle (cs := []) (a := .requireArg (initLinesOk s.params dc rst busy cs)) rfl (by simp) ?_
  rw [initLinesOk_eq_false hinvalid]
  rfl

/-- Settles O32: the state check follows the argument check, which holds. -/
theorem initWhileReadyGivesInvalidState : Obligations.InitWhileReadyGivesInvalidState := by
  intro s bus dc rst busy cs hz hidle hready hlines
  refine .endsAtCheck rfl hidle (cs := [.requireArg (initLinesOk s.params dc rst busy cs)]) (a := .requireUninitialized) rfl
    (by simpa [Act.Holds] using initLinesOk_iff.2 hlines) ?_
  simp [perform, hready, raise, Response.invalidState]

/-- An acquisition that fails is an event, and ends the operation with the transport's cause (R122). -/
theorem perform_acquireBus_fail {cfg : PanelConfig} {k : Nat} {s : State} {c : Cause} (h : s.outcome = .fail c) :
    perform (.acquireBus cfg) k s =
      .next ((s.observe (.acquireBus cfg.busHost (effectiveClock s.params cfg))).finish (.busError c)) := by
  simp only [perform, h, raise]
  rfl

/-- Settles O33: `init` reaches its acquisition, and the failure ends it there. -/
theorem initAcquisitionFailureGivesBusError : Obligations.InitAcquisitionFailureGivesBusError := by
  intro s bus dc rst busy cs hz c hidle hd hlines ho
  have hconfigured := init_reaches_acquireBus (bus := bus) (hz := hz) hidle hd (initLinesOk_iff.2 hlines)
  have hfail := exec_entry (i := .init bus dc rst busy cs hz) rfl
    (s := ((s.accept (.init bus dc rst busy cs hz)).observe (.configLines dc rst busy cs)).goto 3) ⟨rfl, rfl⟩ rfl
  have hrun := hconfigured.trans (.step (hfail.trans (perform_acquireBus_fail ho)))
  rw [← hidle.clear_inFlight] at hrun ⊢
  simpa [State.observe, State.emit, State.drive, State.accept, State.goto, State.finish, effectiveClock, Response.busError]
    using hrun

/-! ## `deinit` -/

/-- On an Uninitialized block `deinit` answers `Ok` and does nothing else (R124, R125). -/
theorem deinit_uninitialized {s : State} (hidle : s.Idle) (hd : s.drv = .uninitialized) :
    Reaches .deinit s { s with responses := s.responses ++ [.ok] } := by
  refine .endsAtCheck rfl hidle (cs := []) (script_deinit s.params) (by simp) ?_
  simp [perform, hd]

/-- On a Ready block `deinit` releases the bus and answers `Ok` (R124). -/
theorem deinit_ready {s : State} (hidle : s.Idle) (hd : s.drv = .ready) :
    Reaches .deinit s ((s.emit .releaseBus).released.finish .ok) := by
  have hcheck : Reaches .deinit s ((s.accept .deinit).goto 1) :=
    .acceptAndCheck rfl hidle (script_deinit s.params) (cs := [.returnIfUninitialized]) (by simpa [Act.Holds] using hd)
  have hrelease := exec_entry (i := .deinit) rfl (s := (s.accept .deinit).goto 1) ⟨rfl, rfl⟩ rfl
  have hend := Reaches.finish (i := .deinit) rfl (s := (((s.accept .deinit).goto 1).emit .releaseBus).released.goto 2)
    (k := 2) ⟨rfl, rfl⟩ (Nat.le_refl 2)
  exact (hcheck.trans (.step hrelease)).trans hend

/-- Settles O34: the check goes on when Ready, and answers `Ok` when not. -/
theorem deinitReleasesTheBusAndIsIdempotent : Obligations.DeinitReleasesTheBusAndIsIdempotent := by
  refine ⟨fun _ => rfl, fun s hidle => ⟨fun hready => ?_, deinit_uninitialized hidle⟩⟩
  have hrun := deinit_ready hidle hready
  rw [← hidle.clear_inFlight] at hrun ⊢
  exact hrun

/-- The entries of `deinit` cannot fail: a step of it in flight sends nothing, or `Ok` (R125). -/
theorem exec_deinit_inFlight {s : State} {k : Nat} (h : s.At .deinit k) :
    ∃ t, exec .deinit s = .next t ∧ (t.responses = s.responses ∨ t.responses = s.responses ++ [.ok]) := by
  match k with
  | 0 =>
    rw [exec_entry rfl h rfl]
    by_cases hd : s.drv = .uninitialized
    · exact ⟨s.finish .ok, by simp [perform, hd], .inr rfl⟩
    · exact ⟨s.goto 1, by simp [perform, hd], .inl rfl⟩
  | 1 => exact ⟨_, exec_entry rfl h rfl, .inl rfl⟩
  | k + 2 =>
    rw [exec_script _ _ rfl, runScript_end h (by simp [script_deinit])]
    exact ⟨_, rfl, .inr rfl⟩

/-- Settles O35: an idle block accepts `deinit`, and no entry of it fails. -/
theorem deinitNeverFails : Obligations.DeinitNeverFails := by
  refine ⟨fun s h => ?_, fun s => deinit_uninitialized⟩
  cases hpc : s.pc with
  | idle => exact ⟨s.accept .deinit, by rw [exec_script _ _ rfl, runScript_idle hpc], .inl rfl⟩
  | step k => exact exec_deinit_inFlight ⟨h.resolve_left (by simp [hpc]), hpc⟩

/-! ## `deepSleep` -/

theorem script_deepSleep (p : Params) :
    script p .deepSleep = [.requireReady] ++ flatten p [.frame (.deepSleepFrame p.pDeepSleep)] := rfl

/-- Settles O36: the one frame of `deepSleep` follows its CMD, leaves RST alone, and takes no busy sample. -/
theorem deepSleepSendsOneFrame : Obligations.DeepSleepSendsOneFrame := by
  intro s hidle hready hd
  have hf : Follows s.params (flatten s.params [.frame (.deepSleepFrame s.params.pDeepSleep)])
      (frameTrace s.params 0x10 s.params.pDeepSleep) := .ofFrame rfl
  refine ⟨?_, ?_, ?_⟩
  · exact .completes rfl hidle (script_deepSleep s.params) (by simpa [Act.Holds] using hready) hf hd
  · exact hf.rstLvl (fun a ha => sends_of_mem_flatten rfl ha) s
  · exact observeAll_busyLevels (sampleBusy_not_mem_frameTrace s.params 0x10 s.params.pDeepSleep) s

end Sys2Proof.Machine
end

section
/-! `hardwareInit` (O37, O38; 42_bringup.md): the lines after its trace, and that the request in flight is a label its run
carries along and does not depend on. -/

namespace Sys2Proof.Machine

/-! ## Line levels after bring-up -/

/-- A command frame leaves RST as it is (R250). -/
theorem observeAll_frameTrace_rstLvl (p : Params) (op : Byte) (payload : List Byte) (s : State) :
    (s.observeAll (frameTrace p op payload)).rstLvl = s.rstLvl :=
  (Follows.ofCmd p op payload).rstLvl (fun _ => sends_of_mem_cmd) s

/-- A command frame without payload leaves DC at the command level (R102). -/
theorem observeAll_bareFrameTrace_dcLvl (p : Params) (op : Byte) (s : State) :
    (s.observeAll (frameTrace p op [])).dcLvl = .driven p.dcCmdLevel := by
  simp [frameTrace, chunks_nil, State.observe]

/-- The reset pulse ends with RST at 1 (R105). -/
theorem observeAll_resetPulseTrace_rstLvl (p : Params) (s : State) :
    (s.observeAll (resetPulseTrace p)).rstLvl = .driven .high := rfl

/-- After the reset pulse nothing in bring-up drives RST (R140). -/
theorem observeAll_hardwareInitTrace_rstLvl (p : Params) (n1 n2 n3 : Nat) (s : State) :
    (s.observeAll (hardwareInitTrace p n1 n2 n3)).rstLvl = .driven .high := by
  simp only [hardwareInitTrace, fullWindowTrace, windowTrace, State.observeAll_append, observeAll_frameTrace_rstLvl,
    (observeAll_waitTrace_levels _ _ _).2, observeAll_resetPulseTrace_rstLvl]

/-- The last frame of bring-up, MASTER_TRIGGER, has no payload (R142, R268). -/
theorem observeAll_hardwareInitTrace_dcLvl (p : Params) (n1 n2 n3 : Nat) (s : State) :
    (s.observeAll (hardwareInitTrace p n1 n2 n3)).dcLvl = .driven p.dcCmdLevel := by
  rw [hardwareInitTrace, State.observeAll_append, (observeAll_waitTrace_levels p n3 _).1, State.observeAll_append,
    observeAll_bareFrameTrace_dcLvl]

/-- Settles O37: the pieces of `hardwareInit` past its check follow its trace, which leaves the lines so. -/
theorem hardwareInitRunsTheBringUpSequence : Obligations.HardwareInitRunsTheBringUpSequence := by
  intro fast s n1 n2 n3 hidle hready hd
  have htrace : OperationTrace s.params (.hardwareInit fast) (hardwareInitTrace s.params n1 n2 n3) := ⟨n1, n2, n3, rfl⟩
  obtain ⟨cs, ps, hruns⟩ := runsAs_of_operationTrace htrace
  exact ⟨hruns.reaches hidle hready hd, observeAll_hardwareInitTrace_rstLvl s.params n1 n2 n3 s,
    observeAll_hardwareInitTrace_dcLvl s.params n1 n2 n3 s⟩

/-! ## Two requests with the same script -/

/-- The state with requests `i` and `j` exchanged in `S.cur`; nothing else differs. -/
def State.exchange (i j : Instr) (s : State) : State := { s with cur := s.cur.map (Equiv.swap i j) }

/-- An answer with requests `i` and `j` exchanged in its state. -/
def Answer.exchange (i j : Instr) : Answer → Answer
  | .next t => .next (t.exchange i j)
  | .fault f => .fault f
  | .refused r => .refused r

theorem State.Idle.exchange_eq {s : State} (h : s.Idle) (i j : Instr) : s.exchange i j = s := by
  obtain ⟨hcur, -⟩ := h
  rw [State.exchange, hcur, Option.map_none, ← hcur]

theorem State.exchange_cur_iff (i j : Instr) (s : State) : (s.exchange i j).cur = some j ↔ s.cur = some i := by
  simp [State.exchange, Equiv.swap_apply_eq_iff]

/-- Accepting `j` is accepting `i`, exchanged (R109). -/
theorem State.exchange_accept (i j : Instr) (s : State) : (s.exchange i j).accept j = (s.accept i).exchange i j := by
  simp [State.exchange, State.accept]

/-- A script entry does not look at the request in flight (R21). -/
theorem perform_exchange (i j : Instr) (a : Act) (k : Nat) (s : State) :
    perform a k (s.exchange i j) = Answer.exchange i j (perform a k s) := by
  have hdrv : (s.exchange i j).drv = s.drv := rfl
  have houtcome : (s.exchange i j).outcome = s.outcome := rfl
  have hlevel : (s.exchange i j).busyLevel = s.busyLevel := rfl
  cases a with
  | requireReady | requireUninitialized | returnIfUninitialized => simp only [perform, hdrv]; split <;> rfl
  | requireArg holds | requireWindow holds => cases holds <;> rfl
  | acquireBus | xfer => simp only [perform, houtcome]; split <;> rfl
  | sampleBusy => simp only [perform, hlevel]; split <;> rfl
  | setLine line level => cases line <;> rfl
  | configLines | releaseBus | delay | pollDelay => rfl

/-- The sequencer runs a script for `j` as it does for `i`: the same step, the requests exchanged (R109). -/
theorem runScript_exchange (i j : Instr) (sc : List Act) (s : State) :
    runScript j sc (s.exchange i j) = Answer.exchange i j (runScript i sc s) := by
  cases hpc : s.pc with
  | idle =>
    rw [runScript_idle hpc, runScript_idle (s := s.exchange i j) hpc, State.exchange_accept]
    rfl
  | step k =>
    by_cases hq : s.cur = some i
    · have hk : s.At i k := ⟨hq, hpc⟩
      have hk' : (s.exchange i j).At j k := ⟨(State.exchange_cur_iff i j s).2 hq, hpc⟩
      cases ha : sc[k]? with
      | some a => rw [runScript_entry hk ha, runScript_entry hk' ha, perform_exchange]
      | none =>
        have hlen := List.getElem?_eq_none_iff.1 ha
        rw [runScript_end hk hlen, runScript_end hk' hlen]
        rfl
    · have hq' : (s.exchange i j).cur ≠ some j := mt (State.exchange_cur_iff i j s).1 hq
      rw [runScript_busy hpc hq, runScript_busy (s := s.exchange i j) hpc hq']
      rfl

/-- Two operations of one script make the same steps, the requests exchanged. -/
theorem exec_exchange {i j : Instr} (hi : isOperation i = true) (hj : isOperation j = true)
    (hs : ∀ p, script p j = script p i) (s : State) :
    exec j (s.exchange i j) = Answer.exchange i j (exec i s) := by
  rw [exec_script j _ hj, exec_script i s hi, hs, runScript_exchange]
  rfl

/-- So do their runs, for any number of steps. -/
theorem execTimes_exchange {i j : Instr} (hi : isOperation i = true) (hj : isOperation j = true)
    (hs : ∀ p, script p j = script p i) (n : Nat) (s : State) :
    execTimes n j (s.exchange i j) = Answer.exchange i j (execTimes n i s) := by
  induction n generalizing s with
  | zero => rfl
  | succ n ih =>
    simp only [execTimes, exec_exchange hi hj hs]
    cases exec i s with
    | next t => exact ih t
    | fault f => rfl
    | refused r => rfl

/-- Settles O38: the script of `hardwareInit` does not depend on its argument. -/
theorem fastModeHasNoEffectOnHardwareInit : Obligations.FastModeHasNoEffectOnHardwareInit := by
  intro s t n hidle h
  have hrun := execTimes_exchange (i := .hardwareInit false) (j := .hardwareInit true) rfl rfl (fun _ => rfl) n s
  rw [hidle.exchange_eq, h] at hrun
  exact ⟨t.exchange (.hardwareInit false) (.hardwareInit true), hrun, rfl⟩

end Sys2Proof.Machine
end

section
/-! `loadBaseMap` (O41, O42; 43_full_update.md R163, R164): a buffer that passes its check is sent to both planes and
refreshed, and one that fails it ends the operation there. -/

namespace Sys2Proof.Machine

/-! ## A buffer of `FRAME_BYTES` bytes -/

/-- Past its checks `loadBaseMap` consists of frames alone, whichever refresh it ends with (R163, R164). -/
theorem ownActs_baseMapRest (p : Params) (img : List Byte) (fast : Bool) :
    (baseMapRest p img fast).flatMap Piece.ownActs = [] := by
  cases fast <;> rfl

/-- The events of `loadBaseMap` leave RST as it is: they are those of its frames (R163, R250). -/
theorem observeAll_baseMapTrace_rstLvl (p : Params) (img : List Byte) (fast : Bool) (n m : Nat) (s : State) :
    (s.observeAll (baseMapTrace p img fast n m)).rstLvl = s.rstLvl :=
  (Follows.ofBaseMapRest p img fast n m).rstLvl (fun _ ha => sends_of_mem_flatten (ownActs_baseMapRest p img fast) ha) s

/-- Settles O41: `loadBaseMap` of a whole frame runs as its checks and then the frames of its trace. -/
theorem loadBaseMapWritesBothPlanes : Obligations.LoadBaseMapWritesBothPlanes := by
  intro img fast s n m hidle hready hlen hd
  have htrace : OperationTrace s.params (.loadBaseMap (some img) fast) (baseMapTrace s.params img fast n m) :=
    ⟨hlen, n, m, rfl⟩
  obtain ⟨cs, ps, hruns⟩ := runsAs_of_operationTrace htrace
  exact ⟨hruns.reaches hidle hready hd, observeAll_baseMapTrace_rstLvl s.params img fast n m s⟩

/-! ## Another buffer -/

/-- The buffer check of `loadBaseMap` fails on a null buffer and on one of another length (R163). -/
theorem baseMapOk_eq_false {p : Params} {data : BufRef} (h : ∀ img, data = some img → img.length ≠ p.frameBytes) :
    baseMapOk p data = false := by
  cases data with
  | none => rfl
  | some img => exact decide_eq_false (h img rfl)

/-- Settles O42: REQUIRE_READY holds, and the buffer check behind it fails. -/
theorem loadBaseMapChecksItsBuffer : Obligations.LoadBaseMapChecksItsBuffer := by
  intro data fast s hidle hready hbad
  refine .endsAtCheck rfl hidle (cs := [.requireReady]) (a := .requireArg (baseMapOk s.params data)) rfl
    (by simpa [Act.Holds] using hready) ?_
  rw [baseMapOk_eq_false hbad]
  rfl

end Sys2Proof.Machine
end

section
/-! The batching scenario (O48; 44_refresh_trigger.md R185): operations run one after the other each find the block as the
one before them left it, and the frames read from their events together are those each operation sends, in order. -/

namespace Sys2Proof.Machine

/-! ## One operation after another -/

theorem State.observe_finish (s : State) (e : Event) (r : Response) : (s.finish r).observe e = (s.observe e).finish r := by
  cases e with
  | setLine line level => cases line <;> rfl
  | _ => rfl

/-- The draws the environment supplies are not touched by the end of an operation (R109, R110). -/
theorem Supplies_finish (s : State) (tr : List Event) (r : Response) : Supplies (s.finish r) tr ↔ Supplies s tr := by
  induction tr generalizing s with
  | nil => exact Iff.rfl
  | cons e rest ih =>
    have hdraw : DrawShows (s.finish r) e ↔ DrawShows s e := by cases e <;> exact Iff.rfl
    rw [Supplies_cons, Supplies_cons, State.observe_finish, ih, hdraw]

/-- How an operation that ended with `Ok` after the events `tr` leaves the block for the next one: idle, with the driver and
the configuration as they were. -/
structure EndsOkAfter (s t : State) (tr : List Event) : Prop where
  idle : t.Idle
  drv : t.drv = s.drv
  params : t.params = s.params
  responses : t.responses = s.responses ++ [.ok]
  trace : t.trace = s.trace ++ tr

theorem endsOkAfter_finish_observeAll (s : State) (tr : List Event) : EndsOkAfter s ((s.observeAll tr).finish .ok) tr :=
  ⟨⟨rfl, rfl⟩, by simp, by simp, by simp, by simp⟩

/-- From an idle Ready block that is supplied past the operation's own events, the operation ends with `Ok`, and what is
left of the draws is supplied after it (R109, R110). -/
theorem reaches_endsOkAfter {s : State} {i : Instr} {tr rest : List Event} (hidle : s.Idle) (hready : s.drv = .ready)
    (h : OperationTrace s.params i tr) (hd : Supplies s (tr ++ rest)) :
    ∃ t, Reaches i s t ∧ EndsOkAfter s t tr ∧ Supplies t rest := by
  obtain ⟨cs, ps, hruns⟩ := runsAs_of_operationTrace h
  obtain ⟨hown, hrest⟩ := (Supplies_append s tr rest).1 hd
  exact ⟨_, hruns.reaches hidle hready hown, endsOkAfter_finish_observeAll s tr, (Supplies_finish _ _ _).2 hrest⟩

/-! ## The frames of several operations -/

/-- The frames an operation sends, in order, as a reader of its trace sees them (R79, R250). -/
def sentFrames (p : Params) (i : Instr) : List RawFrame := (pieces p i).flatMap Piece.rawFrames

/-- The events `tr` are made by pieces whose frames are `fs` and whose own acts neither drive DC nor send. -/
def MakesFrames (p : Params) (tr : List Event) (fs : List RawFrame) : Prop :=
  ∃ ps, Follows p (flatten p ps) tr ∧ (∀ acts, .own acts ∈ ps → ∀ a ∈ acts, a.busEvent = none)
    ∧ ps.flatMap Piece.rawFrames = fs

theorem MakesFrames.append {p : Params} {tr tr' : List Event} {fs fs' : List RawFrame} (h : MakesFrames p tr fs)
    (h' : MakesFrames p tr' fs') : MakesFrames p (tr ++ tr') (fs ++ fs') := by
  obtain ⟨ps, hps, hown, rfl⟩ := h
  obtain ⟨qs, hqs, hown', rfl⟩ := h'
  refine ⟨ps ++ qs, hps.pieces_append hqs, fun acts hacts => ?_, List.flatMap_append⟩
  exact (List.mem_append.1 hacts).elim (hown acts) (hown' acts)

theorem MakesFrames.traceFrames_eq {p : Params} (hm : 1 ≤ p.maxTxn) {tr : List Event} {fs : List RawFrame}
    (h : MakesFrames p tr fs) : traceFrames p.dcCmdLevel tr = fs := by
  obtain ⟨ps, hps, hown, rfl⟩ := h
  exact hps.traceFrames_eq hm hown

/-- An operation's events make the frames it sends: its checks, which stand before them, send none. -/
theorem makesFrames_of_operationTrace {p : Params} {i : Instr} {tr : List Event} (h : OperationTrace p i tr) :
    MakesFrames p tr (sentFrames p i) := by
  obtain ⟨cs, ps, hruns⟩ := runsAs_of_operationTrace h
  refine ⟨ps, hruns.follows, fun acts hacts a ha => ?_, ?_⟩
  · exact busEvent_of_mem_ownActs (List.mem_flatMap.2 ⟨.own acts, hruns.mem_pieces hacts, ha⟩)
  · rw [sentFrames, hruns.pieces_eq, List.flatMap_cons]
    rfl

/-! ## The frames of the batch -/

/-- The commands of a deferred `drawRegion`: its window and its pixels (R200, R203, R205). -/
def deferredDrawCommands : List (List Byte) := [[0x44], [0x45], [0x4E], [0x4F], [0x24]]

/-- The commands of `triggerRefresh`: one LUT, the control byte, one trigger (R180, R182, R184). -/
def triggerRefreshCommands : List (List Byte) := [[0x32], [0x03], [0x04], [0x2C], [0x22], [0x20]]

theorem commands_deferredDraw (p : Params) (x y : U16) (bits : BufRef) (wb hr : U16) :
    (sentFrames p (.drawRegion x y bits wb hr true)).map RawFrame.command = deferredDrawCommands := rfl

theorem commands_triggerRefresh (p : Params) :
    (sentFrames p .triggerRefresh).map RawFrame.command = triggerRefreshCommands := rfl

/-- A deferred `drawRegion` neither loads a LUT nor triggers (R206). -/
theorem command_ne_of_mem_deferredDraw {p : Params} {x y : U16} {bits : BufRef} {wb hr : U16} {f : RawFrame}
    (h : f ∈ sentFrames p (.drawRegion x y bits wb hr true)) : f.command ≠ [0x32] ∧ f.command ≠ [0x20] := by
  have hnone : ∀ c ∈ deferredDrawCommands, c ≠ [0x32] ∧ c ≠ [0x20] := by decide
  exact hnone _ (commands_deferredDraw p x y bits wb hr ▸ List.mem_map_of_mem h)

theorem length_filter_command (fs : List RawFrame) (c : List Byte) :
    (fs.filter fun f => f.command = c).length = (fs.map RawFrame.command).count c := by
  rw [← List.countP_eq_length_filter, List.count, List.countP_map]
  exact List.countP_congr fun f _ => by simp

/-- Settles O48: the three operations run one after the other, and the commands of their frames are those of two deferred
`drawRegion`s, with neither 0x32 nor 0x20, and those of `triggerRefresh`, with one of each. -/
theorem batchLoadsOneLutAndTriggersOnce : Obligations.BatchLoadsOneLutAndTriggersOnce := by
  intro s x1 y1 w1 h1 x2 y2 w2 h2 b1 b2 tr1 tr2 tr3 hc hidle hready htr1 htr2 htr3 hd
  rw [List.append_assoc] at hd
  obtain ⟨t1, hrun1, hend1, hd1⟩ := reaches_endsOkAfter hidle hready htr1 hd
  obtain ⟨t2, hrun2, hend2, hd2⟩ :=
    reaches_endsOkAfter hend1.idle (hend1.drv.trans hready) (hend1.params ▸ htr2) hd1
  have hready2 : t2.drv = .ready := hend2.drv.trans (hend1.drv.trans hready)
  have hparams2 : t2.params = s.params := hend2.params.trans hend1.params
  obtain ⟨t3, hrun3, hend3, -⟩ :=
    reaches_endsOkAfter (rest := []) hend2.idle hready2 (hparams2 ▸ htr3) ((List.append_nil tr3).symm ▸ hd2)
  have hmakes := (makesFrames_of_operationTrace htr1).append (makesFrames_of_operationTrace htr2)
  have hdraws := hmakes.traceFrames_eq (maxTxn_pos_of_configOk hc)
  have hall := (hmakes.append (makesFrames_of_operationTrace htr3)).traceFrames_eq (maxTxn_pos_of_configOk hc)
  have hcount : ∀ c : List Byte,
      ((traceFrames s.params.dcCmdLevel (tr1 ++ tr2 ++ tr3)).filter fun f => f.command = c).length
        = (deferredDrawCommands ++ deferredDrawCommands ++ triggerRefreshCommands).count c := fun c => by
    rw [hall, length_filter_command, List.map_append, List.map_append, commands_deferredDraw, commands_deferredDraw,
      commands_triggerRefresh]
  refine ⟨t1, t2, t3, tr1 ++ tr2, tr3, hrun1, hend1.idle, hrun2, hend2.idle, hrun3, hend3.idle, ?_, ?_, hend3.trace,
    fun f hf => ?_, (hcount _).trans (by decide), (hcount _).trans (by decide)⟩
  · simp [hend3.responses, hend2.responses, hend1.responses, Response.ok]
  · simp [hend2.trace, hend1.trace]
  · rw [hdraws, List.mem_append] at hf
    exact hf.elim command_ne_of_mem_deferredDraw command_ne_of_mem_deferredDraw

end Sys2Proof.Machine
end

section
/-! `drawRegion` (O45–O47; 45_partial_window.md): accepted arguments run as checks, a reset pulse and frames; the first argument
check that fails ends the operation, and past them a window outside the panel ends the run. -/

namespace Sys2Proof.Machine

/-! ## An accepted window -/

/-- A refresh leaves RST as it is: its events are those of frames (R180, R182, R250). -/
theorem observeAll_partialTriggerTrace_rstLvl (p : Params) (n m : Nat) (s : State) :
    (s.observeAll (partialTriggerTrace p n m)).rstLvl = s.rstLvl :=
  (Follows.ofPartialTrigger p n m).rstLvl (fun _ ha => sends_of_mem_flatten rfl ha) s

/-- After the reset pulse nothing in `drawRegion` drives RST (R204). -/
theorem observeAll_drawTrace_rstLvl (p : Params) (x y : Nat) (img : List Byte) (wb hr : Nat) (defer : Bool) (n m : Nat)
    (s : State) : (s.observeAll (drawTrace p x y img wb hr defer n m)).rstLvl = .driven .high := by
  have hrefresh : ∀ t : State, (t.observeAll (if defer then [] else partialTriggerTrace p n m)).rstLvl = t.rstLvl := by
    cases defer
    · exact observeAll_partialTriggerTrace_rstLvl p n m
    · exact fun _ => rfl
  simp only [drawTrace, windowTrace, State.observeAll_append, hrefresh, observeAll_frameTrace_rstLvl,
    observeAll_resetPulseTrace_rstLvl]

/-- Settles O45: an accepted `drawRegion` runs as its checks and then its trace, whose reset pulse leaves RST at 1. -/
theorem drawRegionWritesItsWindow : Obligations.DrawRegionWritesItsWindow := by
  intro x y img wb hr defer s n m hidle hready hargs hd
  have htrace : OperationTrace s.params (.drawRegion x y (some img) wb hr defer)
      (drawTrace s.params x.toNat y.toNat img wb.toNat hr.toNat defer n m) := ⟨hargs, n, m, rfl⟩
  obtain ⟨cs, ps, hruns⟩ := runsAs_of_operationTrace htrace
  exact ⟨hruns.reaches hidle hready hd, observeAll_drawTrace_rstLvl s.params _ _ img _ _ defer n m s⟩

/-! ## Argument checks in a row -/

/-- Argument checks that pass hold, behind checks that hold. -/
theorem holds_append_requireArg {cs : List Act} {args : List Bool} {s : State} (hc : ∀ a ∈ cs, a.Holds s)
    (hargs : ∀ ok ∈ args, ok = true) : ∀ a ∈ cs ++ args.map .requireArg, a.Holds s := by
  intro a ha
  rcases List.mem_append.1 ha with ha | ha
  · exact hc a ha
  · obtain ⟨ok, hok, rfl⟩ := List.mem_map.1 ha
    exact hargs ok hok

/-- From an idle block an operation whose leading checks hold and one of whose argument checks behind them fails answers
`InvalidArgument` and does nothing else: the first that fails ends it (R303, R309). -/
theorem Reaches.invalidArgument {i : Instr} (hi : isOperation i = true) {cs post : List Act} {args : List Bool} {s : State}
    (hidle : s.Idle) (hs : script s.params i = cs ++ args.map .requireArg ++ post) (hc : ∀ a ∈ cs, a.Holds s)
    (hbad : false ∈ args) : Reaches i s { s with responses := s.responses ++ [.invalidArgument] } := by
  obtain ⟨passed, later, rfl, hpassed⟩ := List.eq_append_cons_of_mem hbad
  have hholds := holds_append_requireArg hc fun ok hok => Bool.of_not_eq_false fun h => hpassed (h ▸ hok)
  exact .endsAtCheck hi hidle (cs := cs ++ passed.map .requireArg) (a := .requireArg false)
    (post := later.map .requireArg ++ post) (by simp [hs]) hholds rfl

/-- What the argument checks of `drawRegion` test, in their order (R201). -/
def drawArgs (bits : BufRef) (wb hr : U16) (win : RefreshWindow) : List Bool :=
  [bufPresent bits, dimsNonzero wb hr, widthAligned wb, regionLengthOk bits win]

/-- The script of `drawRegion` up to its first event: REQUIRE_READY, the argument checks, the window check (R200). -/
theorem script_drawRegion (p : Params) (x y : U16) (bits : BufRef) (wb hr : U16) (defer : Bool) :
    ∃ acts, script p (.drawRegion x y bits wb hr defer) =
      [.requireReady] ++ (drawArgs bits wb hr (drawWindow x y wb hr)).map .requireArg
        ++ .requireWindow (windowInPanel p (drawWindow x y wb hr)) :: acts := ⟨_, rfl⟩

/-- One of the argument checks of `drawRegion` fails on arguments that R201 refuses. -/
theorem false_mem_drawArgs {x y : U16} {bits : BufRef} {wb hr : U16}
    (h : bits = none ∨ wb.toNat = 0 ∨ hr.toNat = 0 ∨ wb.toNat % 8 ≠ 0
      ∨ ∃ img, bits = some img ∧ img.length ≠ hr.toNat * wb.toNat / 8) :
    false ∈ drawArgs bits wb hr (drawWindow x y wb hr) := by
  simp only [drawArgs, List.mem_cons, List.not_mem_nil, or_false]
  rcases h with rfl | hwidth | hheight | halign | ⟨img, rfl, hlen⟩
  · exact .inl rfl
  · exact .inr (.inl (by simp [dimsNonzero, hwidth]))
  · exact .inr (.inl (by simp [dimsNonzero, hheight]))
  · exact .inr (.inr (.inl (decide_eq_false halign).symm))
  · exact .inr (.inr (.inr (decide_eq_false hlen).symm))

/-- Settles O46: REQUIRE_READY holds, and one of the argument checks behind it fails. -/
theorem drawRegionChecksItsArguments : Obligations.DrawRegionChecksItsArguments := by
  intro x y bits wb hr defer s hidle hready hbad
  obtain ⟨acts, hscript⟩ := script_drawRegion s.params x y bits wb hr defer
  exact .invalidArgument rfl hidle hscript (by simpa [Act.Holds] using hready) (false_mem_drawArgs hbad)

/-! ## A window outside the panel -/

/-- The argument checks of `drawRegion` pass on arguments that R201 accepts. -/
theorem eq_true_of_mem_drawArgs {x y : U16} {img : List Byte} {wb hr : U16} (hwidth : wb.toNat ≠ 0)
    (hheight : hr.toNat ≠ 0) (halign : wb.toNat % 8 = 0) (hlen : img.length = hr.toNat * wb.toNat / 8) :
    ∀ ok ∈ drawArgs (some img) wb hr (drawWindow x y wb hr), ok = true := by
  have hregion : regionLengthOk (some img) (drawWindow x y wb hr) = true := decide_eq_true hlen
  simp [drawArgs, bufPresent, dimsNonzero, widthAligned, hwidth, hheight, halign, hregion]

/-- The window check fails on a window whose last column or last row is outside the panel (R202, R203). -/
theorem windowInPanel_eq_false {p : Params} {x y wb hr : U16}
    (h : p.w ≤ x.toNat - x.toNat % 8 + wb.toNat - 1 ∨ p.h ≤ y.toNat + hr.toNat - 1) :
    windowInPanel p (drawWindow x y wb hr) = false := by
  rw [windowInPanel, Bool.and_eq_false_iff]
  exact h.imp (fun hx => decide_eq_false (Nat.not_lt.2 hx)) fun hy => decide_eq_false (Nat.not_lt.2 hy)

/-- Settles O47: the checks pass without an event, and the window check behind them faults. -/
theorem windowOutsideThePanelFaults : Obligations.WindowOutsideThePanelFaults := by
  intro x y img wb hr defer s hidle hready hwidth hheight halign hlen hout
  obtain ⟨acts, hscript⟩ := script_drawRegion s.params x y (some img) wb hr defer
  have hholds := holds_append_requireArg (cs := [.requireReady]) (s := s) (by simpa [Act.Holds] using hready)
    (eq_true_of_mem_drawArgs (x := x) (y := y) hwidth hheight halign hlen)
  refine ⟨_, .acceptAndCheck rfl hidle hscript hholds, rfl, rfl, ?_⟩
  rw [exec_entry rfl ⟨rfl, rfl⟩ (a := .requireWindow (windowInPanel s.params (drawWindow x y wb hr))) (by simp [hscript]),
    windowInPanel_eq_false hout]
  rfl

end Sys2Proof.Machine
end

section
/-! The packer beside the sequencer (O10), its argument errors (O57), what it reads (O58), luminance (O59) and alignment
(O56): a checked source covers every pixel of the rectangle, so bytes behind it are not read, and every channel is a byte. -/

namespace Sys2Proof.Machine

/-! ## Alignment -/

/-- Settles O56: the formulas are the definitions', the bounds those of a remainder by 8. -/
theorem packAlignmentLaw : Obligations.PackAlignmentLaw := by
  intro xs w
  have hpad : leadingPad xs < 8 := leadingPad_eq xs ▸ Nat.mod_lt _ (by omega)
  have hdown : alignDown8 xs.toNat = xs.toNat - xs.toNat % 8 := rfl
  have hwidth : alignedWidth xs w = (w.toNat + leadingPad xs + 7) / 8 * 8 := rfl
  refine ⟨rfl, rfl, ?_, ?_, hpad, rfl, hpad, ?_, ?_, ?_, ?_⟩ <;> omega

/-! ## Argument errors -/

/-- The argument checks fail on arguments that R223 refuses. -/
theorem packArgsOk_eq_false {w h : U16} {f : PixelFormat} {src : BufRef}
    (hbad : w.toNat = 0 ∨ h.toNat = 0 ∨ src = none
      ∨ ∃ bytes, src = some bytes ∧ bytes.length < w.toNat * h.toNat * bytesPerPixel f) :
    packArgsOk w h f src = false := by
  rcases hbad with hwidth | hheight | rfl | ⟨bytes, rfl, hshort⟩
  · simp [packArgsOk, hwidth]
  · simp [packArgsOk, hheight]
  · exact Bool.and_false _
  · simp [packArgsOk, hshort]

/-- Arguments that fail a check are answered with `InvalidArgument` (R223). -/
theorem packResponse_refused {w h : U16} {f : PixelFormat} {src : BufRef} (hargs : packArgsOk w h f src = false)
    (p : Params) (xs ys : U16) (thr : Option Byte) : packResponse p xs ys w h f src thr = .invalidArgument := by
  rw [packResponse, hargs, if_neg Bool.false_ne_true]

/-- Settles O57: a check of R223 fails, whatever the state. -/
theorem packChecksItsArguments : Obligations.PackChecksItsArguments := by
  intro xs ys w h f src thr s hbad
  rw [exec_pack, packResponse_refused (packArgsOk_eq_false hbad)]
  rfl

/-! ## Bytes behind the rectangle -/

/-- A byte read inside a buffer is the same with more bytes behind it (R53). -/
theorem memByte_append_left {src : List Byte} (extra : List Byte) {i : Nat} (hi : i < src.length) :
    memByte (src ++ extra) i = memByte src i := by
  rw [memByte, memByte, List.getD_append _ _ _ _ hi]

/-- A pixel that lies inside the source decodes the same with more bytes behind it (R224, R225). -/
theorem pixelChannels_append_left {f : PixelFormat} {src : List Byte} {off : Nat}
    (hoff : off + bytesPerPixel f ≤ src.length) (p : Params) (extra : List Byte) :
    pixelChannels p f (src ++ extra) off = pixelChannels p f src off := by
  have hbyte : ∀ i < bytesPerPixel f, memByte (src ++ extra) (off + i) = memByte src (off + i) :=
    fun i hi => memByte_append_left extra (by omega)
  cases f with
  | rgb565 => simp only [pixelChannels, hbyte 0 (by decide), hbyte 1 (by decide)]
  | l8 => simp only [pixelChannels, hbyte 0 (by decide)]
  | bgr888 | bgra8888 => simp only [pixelChannels, hbyte 0 (by decide), hbyte 1 (by decide), hbyte 2 (by decide)]

/-- Each pixel of the rectangle ends within the rectangle's bytes (R231). -/
theorem pixelEnd_le {w h : U16} {r c : Nat} (n : Nat) (hr : r < h.toNat) (hc : c < w.toNat) :
    (r * w.toNat + c) * n + n ≤ w.toNat * h.toNat * n :=
  calc (r * w.toNat + c) * n + n
    _ = (r * w.toNat + (c + 1)) * n := by ring
    _ ≤ (r * w.toNat + w.toNat) * n := Nat.mul_le_mul_right n (by omega)
    _ = w.toNat * (r + 1) * n := by ring
    _ ≤ w.toNat * h.toNat * n := Nat.mul_le_mul_right n (Nat.mul_le_mul_left _ hr)

section
variable {w h : U16} {f : PixelFormat} {src : List Byte} (hlen : w.toNat * h.toNat * bytesPerPixel f ≤ src.length)
  (extra : List Byte)
include hlen

/-- Bytes behind the rectangle change no pixel's class (R223, R231). -/
theorem pixelInk_append (p : Params) (thr : Byte) {r c : Nat} (hr : r < h.toNat) (hc : c < w.toNat) :
    pixelInk p w f (src ++ extra) thr r c = pixelInk p w f src thr r c := by
  rw [pixelInk, pixelInk, pixelChannels_append_left (Nat.le_trans (pixelEnd_le (bytesPerPixel f) hr hc) hlen)]

/-- Bytes behind the rectangle change no bit of the bitmap (R223). -/
theorem packBytes_append (p : Params) (xs : U16) (thr : Byte) :
    packBytes p xs w h f (src ++ extra) thr = packBytes p xs w h f src thr := by
  refine List.foldl_ext _ _ _ fun out rc hrc => ?_
  obtain ⟨hr, hc⟩ := mem_pixelOrder.1 hrc
  rw [packPixel, packPixel, pixelInk_append hlen extra p thr hr hc]

/-- Bytes behind the rectangle change no argument check (R223). -/
theorem packArgsOk_append : packArgsOk w h f (some (src ++ extra)) = packArgsOk w h f (some src) := by
  have hlong : w.toNat * h.toNat * bytesPerPixel f ≤ (src ++ extra).length := by
    rw [List.length_append]
    omega
  simp only [packArgsOk, decide_eq_true hlen, decide_eq_true hlong]

/-- Bytes behind the rectangle do not change the answer (R223). -/
theorem packResponse_append (p : Params) (xs ys : U16) (thr : Option Byte) :
    packResponse p xs ys w h f (some (src ++ extra)) thr = packResponse p xs ys w h f (some src) thr := by
  simp only [packResponse, packArgsOk_append hlen, bufBytes, Option.getD_some, packBytes_append hlen]

end

/-- Settles O58: the answer reads the operands and the configuration, and of the source its first bytes alone. -/
theorem packDependsOnItsOperandsAlone : Obligations.PackDependsOnItsOperandsAlone := by
  intro xs ys w h f src extra thr s t hparams hlen
  refine ⟨packResponse s.params xs ys w h f (some src) thr, exec_pack xs ys w h f (some src) thr s, ?_⟩
  rw [exec_pack, packResponse_append hlen, hparams]
  rfl

/-! ## Luminance -/

/-- Each of the three channels is at most 255 (R224, R225). -/
def ChannelsAreBytes (rgb : Nat × Nat × Nat) : Prop := rgb.1 ≤ 255 ∧ rgb.2.1 ≤ 255 ∧ rgb.2.2 ≤ 255

/-- The expanded fields of a 16-bit word are bytes (R224). -/
theorem rgb565Channels_areBytes {v : Nat} (hv : v < 65536) : ChannelsAreBytes (rgb565Channels v) := by
  rw [rgb565Channels_eq hv]
  refine ⟨?_, ?_, ?_⟩ <;> dsimp only <;> omega

/-- A pixel of any format decodes to bytes (R224, R225). -/
theorem pixelChannels_areBytes (p : Params) (f : PixelFormat) (src : List Byte) (off : Nat) :
    ChannelsAreBytes (pixelChannels p f src off) := by
  have hbyte : ∀ b : Byte, b.toNat ≤ 255 := fun b => Nat.le_of_lt_succ b.isLt
  cases f with
  | rgb565 => exact rgb565Channels_areBytes (rgb565Word_lt _ _ _)
  | l8 => exact ⟨hbyte _, hbyte _, hbyte _⟩
  | bgr888 => exact ⟨hbyte _, hbyte _, hbyte _⟩
  | bgra8888 => exact ⟨hbyte _, hbyte _, hbyte _⟩

section
variable {rgb : Nat × Nat × Nat} (hrgb : ChannelsAreBytes rgb)
include hrgb

/-- The weights of R226 add up to 100. -/
theorem lum100_le : lum100 rgb.1 rgb.2.1 rgb.2.2 ≤ 25500 := by
  obtain ⟨hr, hg, hb⟩ := hrgb
  unfold lum100
  omega

/-- Only pure white reaches the greatest luminance, since every weight of R226 is positive. -/
theorem lum100_lt_iff : lum100 rgb.1 rgb.2.1 rgb.2.2 < 25500 ↔ rgb ≠ (255, 255, 255) := by
  obtain ⟨r, g, b⟩ := rgb
  obtain ⟨hr, hg, hb⟩ : r ≤ 255 ∧ g ≤ 255 ∧ b ≤ 255 := hrgb
  simp only [lum100, ne_eq, Prod.mk.injEq]
  omega

end

/-- At threshold 0 no pixel is ink (R227). -/
theorem isInk_zero (rgb : Nat × Nat × Nat) : isInk rgb 0 = false := decide_eq_false (Nat.not_lt_zero _)

/-- Settles O59: the channels are bytes, so the luminance has its maximum at white alone. -/
theorem luminanceRangeAndExtremeThresholds : Obligations.LuminanceRangeAndExtremeThresholds := by
  intro p f src off
  have hbytes := pixelChannels_areBytes p f src off
  exact ⟨lum100_le hbytes, decide_eq_true_iff.trans (lum100_lt_iff hbytes), isInk_zero _⟩

/-! ## The step beside a waiting `pack` -/

/-- Beside a waiting `pack` request the operation in flight goes on at the sequencer's turn (R313). -/
theorem nextMove_sequencer {s : State} {i : Instr} {args : List Arg} {later : List HostRequest}
    (hc : configOk s.params = true) (hcur : s.cur = some i) (hq : s.requests = ⟨0x09, args⟩ :: later)
    (ht : s.turn = .sequencer) : nextMove s = .run (s.issued i) s.takeTurn := by
  simp [nextMove, hc, hcur, packWaits, hq, ht]

/-- Settles O10: on its turn the packer takes the request, else the sequencer makes the operation's own step. -/
theorem packIsServedBesideTheSequencer : Obligations.PackIsServedBesideTheSequencer := by
  intro s i args later xs ys w h f src thr hc hcur hq hd
  constructor
  · intro ht
    rw [step, nextMove_packer hc hcur hq ht, takeRequest_ok (s := s.takeTurn) hq hd]
    exact exec_pack xs ys w h f src thr _
  · intro ht
    rw [step, nextMove_sequencer hc hcur hq ht]
    exact exec_issued (s := s.takeTurn) hcur

end Sys2Proof.Machine
end

section
/-! Errors (O27, O28; 60_exceptions.md R302, R309): what the entry that ends an operation leaves behind, and that the first
failing transaction of a trace is the one that ends it. -/

namespace Sys2Proof.Machine

/-! ## What a step that responds has done -/

/-- From `s`, entry `a` of its script ends the operation in flight with response `r`, in state `t`; past the last entry `a`
is none. A check and the end of the script make no event; otherwise the entry is the transaction that failed (R109, R309). -/
inductive EndsAt (s : State) (a : Option Act) : Response → State → Prop where
  | silent {r : Response} (hresult : r.result ≠ .busError) (hinfo : r.info = .none) : EndsAt s a r (s.finish r)
  | xfer {bytes : List Byte} {c : Cause} (ha : a = some (.xfer bytes)) (hc : s.outcome = .fail c) :
      EndsAt s a (.busError c) ((s.observe (.xfer bytes)).finish (.busError c))
  | acquireBus {cfg : PanelConfig} {c : Cause} (ha : a = some (.acquireBus cfg)) (hc : s.outcome = .fail c) :
      EndsAt s a (.busError c)
        ((s.observe (.acquireBus cfg.busHost (effectiveClock s.params cfg))).finish (.busError c))

/-- Ending an operation sends the response it ends with. -/
theorem State.finish_inj {s : State} {r r' : Response} : s.finish r = s.finish r' ↔ r = r' :=
  ⟨fun h => by simpa using congrArg State.responses h, congrArg _⟩

/-- Going on with a script is not ending it. -/
theorem State.goto_ne_finish (s : State) (k : Nat) (r : Response) : s.goto k ≠ s.finish r := fun h => by
  simpa using congrArg State.pc h

/-- A check that ends its operation carries neither a bus error nor an info (R108, R120, R124, R303). -/
theorem response_of_check {a : Act} {k : Nat} {s : State} {r : Response} (he : a.event s = none)
    (h : perform a k s = .next (s.finish r)) : r.result ≠ .busError ∧ r.info = .none := by
  cases a with
  | requireReady | requireUninitialized | returnIfUninitialized | requireArg | requireWindow =>
    simp only [perform, raise] at h
    split at h <;>
      simp only [reduceCtorEq, Host.Outcome.next.injEq, State.finish_inj, State.goto_ne_finish] at h
    all_goals
      subst h
      exact ⟨nofun, rfl⟩
  | _ => cases he

/-- An entry that sends a response ends its operation (R309). -/
theorem endsAt_of_perform {a : Act} {k : Nat} {s t : State} (h : perform a k s = .next t)
    (hr : t.responses ≠ s.responses) : ∃ r, EndsAt s (some a) r t := by
  rcases perform_next h with ⟨-, -, rfl⟩ | ⟨he, r, rfl⟩ | ⟨e, -, -, rfl⟩ | ⟨e, c, he, hd, hc, rfl⟩
  · exact absurd rfl hr
  · obtain ⟨hresult, hinfo⟩ := response_of_check he h
    exact ⟨r, .silent hresult hinfo⟩
  · exact absurd (by simp) hr
  · refine ⟨.busError c, ?_⟩
    cases a with
    | xfer bytes => cases he; exact .xfer rfl hc
    | acquireBus cfg => cases he; exact .acquireBus rfl hc
    | _ => cases he <;> exact absurd (by simp [DrawShows]) hd

/-- A step of the sequencer that sends a response ends the operation in flight, which is the instruction or is sending it
(R109, R250, R309). -/
theorem exec_endsAt {i : Instr} {s t : State} (hi : isPack i = false) (h : exec i s = .next t)
    (hr : t.responses ≠ s.responses) :
    ∃ q k r, s.At q k ∧ (i = q ∨ ∃ j, frameOf s.params q k = some (i, j)) ∧ EndsAt s (script s.params q)[k]? r t := by
  cases hf : i.isFrame with
  | true =>
    obtain ⟨q, k, j, a, hk, hj, ha, hp⟩ := exec_frame_cases hf h
    obtain ⟨r, hend⟩ := endsAt_of_perform hp hr
    exact ⟨q, k, r, hk, .inr ⟨j, hj⟩, by rwa [(script_frame hj).1, ha]⟩
  | false =>
    rcases exec_cases (by simp [isOperation, hi, hf]) h with ⟨-, rfl⟩ | ⟨k, hk, ⟨a, ha, hp⟩ | ⟨-, rfl⟩⟩
    · exact absurd rfl hr
    · obtain ⟨r, hend⟩ := endsAt_of_perform hp hr
      exact ⟨i, k, r, hk, .inl rfl, by rwa [ha]⟩
    · exact ⟨i, k, .ok, hk, .inl rfl, .silent nofun rfl⟩

/-- Settles O27: the step ends the operation in flight, and each of the three ways an operation ends is an equation for the
state after it. -/
theorem errorsEndTheOperationPrecisely : Obligations.ErrorsEndTheOperationPrecisely := by
  intro i s t hi h hr
  obtain ⟨q, k, r, hk, hq, hend⟩ := exec_endsAt hi h hr
  refine ⟨q, k, r, hk, hq, ?_⟩
  cases hend with
  | silent hresult hinfo =>
    exact ⟨rfl, rfl, rfl, fun _ => ⟨rfl, rfl, rfl, rfl, rfl, rfl, rfl, rfl, fun hb => absurd hb hresult,
      fun _ => ⟨rfl, rfl, rfl, hinfo⟩⟩⟩
  | xfer ha hc =>
    exact ⟨rfl, rfl, rfl, fun _ => ⟨rfl, rfl, rfl, rfl, rfl, rfl, rfl, rfl,
      fun _ => ⟨rfl, rfl, _, hc, rfl, .inl ⟨_, ha, rfl⟩⟩, fun hb => absurd rfl hb⟩⟩
  | acquireBus ha hc =>
    exact ⟨rfl, rfl, rfl, fun _ => ⟨rfl, rfl, rfl, rfl, rfl, rfl, rfl, rfl,
      fun _ => ⟨rfl, rfl, _, hc, rfl, .inr ⟨_, ha, rfl⟩⟩, fun hb => absurd rfl hb⟩⟩

/-! ## Fail-fast -/

/-- From an idle Ready block the operation ends at its first failing transaction: the events before it have happened, and it
is the last (R302). -/
theorem RunsAs.fails {s : State} {i : Instr} {before after : List Event} {bytes : List Byte} {cs : List Act}
    {ps : List Piece} {c : Cause} (h : RunsAs s.params i (before ++ .xfer bytes :: after) cs ps) (hidle : s.Idle)
    (hready : s.drv = .ready) (hd : Supplies s before) (hc : (s.observeAll before).outcome = .fail c) :
    Reaches i s (((s.observeAll before).observe (.xfer bytes)).finish (.busError c)) := by
  have hscript : script s.params i = cs ++ flatten s.params ps := by
    rw [script, h.pieces_eq, flatten_cons, pieceActs_own]
  have hchecks := Reaches.acceptAndCheck h.operation hidle hscript (h.checks s hready)
  have hfails := h.follows.fails (s := (s.accept i).goto cs.length) (post := [])
    (.operation _ h.operation 0 (cs.length + (flatten s.params ps).length)) rfl (Nat.zero_le _) (Nat.le_refl _) ⟨rfl, rfl⟩
    (by simpa using hscript) rfl ((Supplies_goto _ _ _).2 ((Supplies_accept _ _ _).2 hd))
    (by simpa [State.observeAll_goto, State.observeAll_accept] using hc)
  simpa [State.observeAll_goto, State.observeAll_accept, State.observe_goto, State.observe_accept]
    using hchecks.trans hfails

/-- Settles O28: past its checks the operation follows its trace up to the transaction that fails. -/
theorem firstFailingTransactionEndsTheOperation : Obligations.FirstFailingTransactionEndsTheOperation := by
  intro i s before after bytes c hidle hready htrace hd hc
  obtain ⟨cs, ps, hruns⟩ := runsAs_of_operationTrace htrace
  exact ⟨_, hruns.fails hidle hready hd hc, rfl, rfl, by simp, by simp [Response.busError], by simp, by simp, by simp, rfl,
    rfl⟩

end Sys2Proof.Machine
end

section
/-! The step of a run that has ended (O11; 70_reset_and_hazards.md R341). -/

namespace Sys2Proof.Machine

/-- A host that has no request left gives the idle block nothing to take (R341). -/
theorem takeRequest_empty {s : State} (hq : s.requests = []) : takeRequest s = .rest := by
  simp [takeRequest, hq]

/-- Settles O11: with nothing in flight the move is the host's, and the host has none. -/
theorem endedRunRests : Obligations.EndedRunRests := by
  intro s hc hended
  obtain ⟨hq, hcur⟩ := hended
  rw [step, nextMove_idle hc hcur, takeRequest_empty hq]

end Sys2Proof.Machine
end
